-- ==== Sys2Proof/Word.lean ====
section
/-! DEFINITION. The widths the spec gives its counts, times and bytes. -/

namespace Sys2Proof

/-- A byte of the line, of the station port and of the configuration record. -/
abbrev Byte := BitVec 8

/-- A belt count: 24 bits, wrapping (R6). -/
abbrev Count := BitVec 24

/-- A time on the timebase: 32 bits of microseconds, wrapping (R8). -/
abbrev Time := BitVec 32

end Sys2Proof
end

