-- ==== Sys2Proof/Syntax.lean ====
section
/-! DEFINITION. The commands the part takes: one constructor for each row of spec/opcode_table.json. The table gives the
rows no fields; an operand is what the row's event brings from outside, or which of several like things it concerns. -/

namespace Sys2Proof

/-- A frame as it stands on the line, after its start bit (R44): the kind code and sender id of the arbitration field, the
sequence number, the payload, the CRC and the end field. -/
structure WireFrame where
  kind     : BitVec 3
  sender   : BitVec 5
  sequence : Byte
  payload  : List Byte
  crc      : BitVec 16
  endField : Byte
  deriving DecidableEq, Repr

/-- What may fall between two belt-unit advances of one edge and reads the belt count as it then stands (R10): an event that
compares with the count, a start edge that latches it, or a value of a port response in progress (R20). The events are those of
the commands of these names (log 5). -/
inductive Between where
  /-- The next value of a READ response, its moment having come (R166). -/
  | portValue
  | exchangeComplete (status : Byte) (magnitudes : Vector Byte 32)
  | localSightingTaken
  | lineIdle (startEdge : Bool := false)
  | startEdgeLatch
  | beaconDue
  | monitorSample (levels : Byte)
  | sightTaken
  | claimTaken
  | firedTaken
  | missedTaken
  | tOpenDue
  | start
  | haltAssert
  | haltRelease
  deriving DecidableEq, Repr

/-- The commands (opcode_table.json), in the table's order. -/
inductive Instr where
  /-- ENCODER_EDGE (R1): a transition of the pulse input, low to high when `rising`, with the level of the direction
  input, high when `forward`. When the edge gives several advances, list `k` of `between` is what falls after advance `k + 1` and
  before the next, in order (R10). -/
  | encoderEdge (rising forward : Bool) (between : List (List Between) := [])
  /-- STALL (R15). -/
  | stall
  /-- EXCHANGE_COMPLETE (R22): the status byte and the magnitudes the front end gave; only the first n are clocked. -/
  | exchangeComplete (status : Byte) (magnitudes : Vector Byte 32)
  /-- LOCAL_SIGHTING_TAKEN (R40). -/
  | localSightingTaken
  /-- LINE_IDLE (R45). With `startEdge`, a start edge of another station comes at the same instant and is taken first. -/
  | lineIdle (startEdge : Bool := false)
  /-- START_EDGE_LATCH (R48): a dominant bit given by another station, a start edge when the line is idle (R45). -/
  | startEdgeLatch
  /-- ARBITRATION_LOST (R55): at the arbitration bit `bit`, bit 0 being the first one sent. -/
  | arbitrationLost (bit : Fin 8)
  /-- BIT_ERROR (R56). -/
  | bitError
  /-- ATTEMPT_COMPLETE (R54). -/
  | attemptComplete
  /-- BEACON_DUE (R52). -/
  | beaconDue
  /-- FRAME_RECEIVED (R60): the frame as this receiver read it. -/
  | frameReceived (frame : WireFrame)
  /-- PEER_LOSS_DUE (R70) of the peer `id`. -/
  | peerLossDue (id : Fin 24)
  /-- MONITOR_SAMPLE (R80): the levels of the eight inputs, input i at bit i, high as 1. -/
  | monitorSample (levels : Byte)
  /-- SIGHT_TAKEN (R90). -/
  | sightTaken
  /-- CLAIM_TAKEN (R122). -/
  | claimTaken
  /-- FIRED_TAKEN (R126). -/
  | firedTaken
  /-- MISSED_TAKEN (R129). -/
  | missedTaken
  /-- T_OPEN_DUE (R145): the whole group of LAUNCHED tracks whose t_open has fallen due (R155). -/
  | tOpenDue
  /-- COASTING_T_OPEN (R146) of the track with this number in the order of making. -/
  | coastingTOpen (track : Nat)
  /-- T_CLOSE_DUE (R158) of the track with this number in the order of making. -/
  | tCloseDue (track : Nat)
  /-- CLOSE_AT_DUE (R156) of a valve. -/
  | closeAtDue (valve : Fin 32)
  /-- RECOVER_UNTIL_DUE (R157) of a valve. -/
  | recoverUntilDue (valve : Fin 32)
  /-- READ_IDENT (R168). -/
  | readIdent
  /-- WRITE_CONFIG (R169): the offset byte, the count byte and the data bytes received. -/
  | writeConfig (offset count : Byte) (data : List Byte)
  /-- READ_CONFIG (R171). -/
  | readConfig
  /-- START (R173). -/
  | start
  /-- RESTART (R174). -/
  | restart
  /-- READ_STATE (R182). `waits` says how the local controller clocks the response (R166): entry `k` is the number of
  microseconds between the formation of value `k` and that of the item before it, the status byte being before value 0; where
  the list has ended, no event falls between (log 13). -/
  | readState (waits : List Nat := [])
  /-- READ_FLAGS (R176), clocked as READ_STATE is. -/
  | readFlags (waits : List Nat := [])
  /-- CLEAR_FLAGS (R176): the two mask bytes, the first sent in bits 15..8. -/
  | clearFlags (mask : BitVec 16)
  /-- READ_TALLIES (R178), clocked as READ_STATE is. -/
  | readTallies (waits : List Nat := [])
  /-- CLEAR_TALLIES (R178). -/
  | clearTallies
  /-- HALT_ASSERT (R74). -/
  | haltAssert
  /-- HALT_RELEASE (R74). -/
  | haltRelease
  /-- CLEAR_HALT (R76): the station id byte. -/
  | clearHalt (id : Byte)
  /-- READ_PEERS (R182), clocked as READ_STATE is. -/
  | readPeers (waits : List Nat := [])
  /-- READ_TRACE (R179). -/
  | readTrace
  /-- READ_LATEST (R180). -/
  | readLatest
  /-- READ_COPY (R181). -/
  | readCopy
  /-- UNKNOWN_COMMAND (R167): a command byte that is not in Table 10-1. -/
  | unknownCommand (code : Byte)
  /-- TRANSACTION_ABANDON (R166). -/
  | transactionAbandon
  /-- RESET_ASSERT (R175): power-on, or the RESET pin is asserted. -/
  | resetAssert
  /-- COLD_START (R175): cold start completes with the five strap pins at these levels. -/
  | coldStart (straps : BitVec 5)
  deriving DecidableEq, Repr

end Sys2Proof
end

