-- ==== Sys2Proof/Machine/Transaction.lean ====
section
/-! DEFINITION. The bytes of a port transaction (R166, Table 10-1): the command that its command byte and argument bytes give. -/

namespace Sys2Proof.Machine

/-- WRITE-CONFIG's argument bytes: offset, count, then as many data bytes as the count says. -/
def takenWrite : List Byte → Option Instr
  | [] | [_] => none
  | offset :: count :: data =>
    if count.toNat ≤ data.length then some (.writeConfig offset count (data.take count.toNat)) else none

/-- CLEAR-FLAGS's two mask bytes, the high one first. -/
def takenMask : List Byte → Option Instr
  | [] | [_] => none
  | high :: low :: _ => some (.clearFlags (high ++ low))

/-- CLEAR-HALT's station id. -/
def takenId : List Byte → Option Instr
  | [] => none
  | id :: _ => some (.clearHalt id)

/-- The command that is taken at this command byte when these bytes have been clocked in after it, none while argument bytes are
missing (R166, Table 10-1). Bytes after the last argument fall into the response and are ignored; `waits` is how the response of a
reading command is clocked (log 13). -/
def takenCommand (code : Byte) (args : List Byte) (waits : List Nat := []) : Option Instr :=
  match code.toNat with
  | 1 => some .readIdent
  | 2 => takenWrite args
  | 3 => some .readConfig
  | 4 => some .start
  | 5 => some .restart
  | 6 => some (.readState waits)
  | 7 => some (.readFlags waits)
  | 8 => takenMask args
  | 9 => some (.readTallies waits)
  | 10 => some .clearTallies
  | 11 => some .haltAssert
  | 12 => some .haltRelease
  | 13 => takenId args
  | 14 => some (.readPeers waits)
  | 15 => some .readTrace
  | 16 => some .readLatest
  | 17 => some .readCopy
  | _ => some (.unknownCommand code)

/-- The command byte is one of Table 10-1. -/
def knownCommand (code : Byte) : Bool := takenCommand code [] != some (.unknownCommand code)

/-- The command of a transaction in which these bytes are clocked in before the select input is released: abandoned, when it is
released before a command is taken (R166). -/
def transactionCommand (bytes : List Byte) (waits : List Nat := []) : Instr :=
  match bytes with
  | [] => .transactionAbandon
  | code :: args => (takenCommand code args waits).getD .transactionAbandon

end Sys2Proof.Machine
end

