-- ==== Sys2Proof/Decode.lean ====
section
/-! DEFINITION. Words read as commands. No row of spec/opcode_table.json gives bits ("fields": [] throughout); the spec's own
encoding of commands is that of Table 10-1, so a word is read as the bytes of a port transaction, the command byte first. -/

namespace Sys2Proof

/-- The bytes of a word of `nbits` bits, the first in its lowest bits. -/
def wordBytes (nbits w : Nat) : List Byte :=
  (List.range ((nbits + 7) / 8)).map fun k => BitVec.ofNat 8 ((w % 2 ^ nbits) / 256 ^ k)

/-- The port command that a word spells (R166, Table 10-1), argument bytes beyond the word being zero: DESIGN CHOICE (log 6). -/
def decodeTableWord (nbits w : Nat) : Option Instr :=
  match wordBytes nbits w with
  | [] => none
  | code :: args => Machine.takenCommand code (args ++ List.replicate 257 0)

end Sys2Proof
end

