-- ==== Sys2Proof/Machine/Codes.lean ====
section
/-! DEFINITION. The names the spec numbers: classes, sensor kinds, roles, frame kinds, causes, reasons, states, flags and
tallies, each with its code and with the reading of a code. -/

namespace Sys2Proof.Machine

/-- The classes of 00_scope 1.5. -/
inductive PieceClass where
  | unknown | metal | wire | foam | plastic | inert
  deriving DecidableEq, Repr

def PieceClass.code : PieceClass → Nat
  | .unknown => 0 | .metal => 1 | .wire => 2 | .foam => 3 | .plastic => 4 | .inert => 5

def PieceClass.ofCode? : Nat → Option PieceClass
  | 0 => some .unknown | 1 => some .metal | 2 => some .wire
  | 3 => some .foam | 4 => some .plastic | 5 => some .inert
  | _ => none

/-- The reading of a class field of the record, which is clamped to 0..5 (log 20). -/
def PieceClass.ofCode (n : Nat) : PieceClass := (PieceClass.ofCode? n).getD .unknown

/-- The sensor kinds of 00_scope 1.5. -/
inductive SensorKind where
  | inductiveBar | optical | infrared | density
  deriving DecidableEq, Repr

def SensorKind.code : SensorKind → Nat
  | .inductiveBar => 0 | .optical => 1 | .infrared => 2 | .density => 3

def SensorKind.ofCode? : Nat → Option SensorKind
  | 0 => some .inductiveBar | 1 => some .optical | 2 => some .infrared | 3 => some .density
  | _ => none

def SensorKind.ofCode (n : Nat) : SensorKind := (SensorKind.ofCode? n).getD .inductiveBar

/-- The station roles of 00_scope 1.4. -/
inductive Role where
  | sense | eject | both
  deriving DecidableEq, Repr

def Role.code : Role → Nat
  | .sense => 0 | .eject => 1 | .both => 2

def Role.ofCode? : Nat → Option Role
  | 0 => some .sense | 1 => some .eject | 2 => some .both
  | _ => none

def Role.ofCode (n : Nat) : Role := (Role.ofCode? n).getD .sense

/-- The station scans its own sensor bar (R11). -/
def Role.senses : Role → Bool
  | .sense => true | .eject => false | .both => true

/-- The station keeps tracks (R64). -/
def Role.ejects : Role → Bool
  | .sense => false | .eject => true | .both => true

/-- The counted edge of the record (R1). -/
inductive CountedEdge where
  | rising | falling | both
  deriving DecidableEq, Repr

def CountedEdge.ofCode : Nat → CountedEdge
  | 1 => .falling | 2 => .both | _ => .rising

/-- The functions of a monitor input (R81). -/
inductive InputFunction where
  | none | airOk | doorClosed | chuteReady | stopRequest
  deriving DecidableEq, Repr

def InputFunction.ofCode : Nat → InputFunction
  | 1 => .airOk | 2 => .doorClosed | 3 => .chuteReady | 4 => .stopRequest | _ => .none

/-- The own halt causes (R74), with their codes in a HALT frame (Table 3-1). -/
inductive HaltCause where
  | door | stop | operator
  deriving DecidableEq, Repr

def HaltCause.code : HaltCause → Nat
  | .door => 1 | .stop => 2 | .operator => 3

def HaltCause.ofCode? : Nat → Option HaltCause
  | 1 => some .door | 2 => some .stop | 3 => some .operator
  | _ => none

/-- The reasons of a MISSED outcome, with their codes (Table 3-1). -/
inductive MissReason where
  | halt | chute | speed | queue | air | recover
  deriving DecidableEq, Repr

def MissReason.code : MissReason → Nat
  | .halt => 1 | .chute => 2 | .speed => 3 | .queue => 4 | .air => 5 | .recover => 6

def MissReason.ofCode? : Nat → Option MissReason
  | 1 => some .halt | 2 => some .chute | 3 => some .speed
  | 4 => some .queue | 5 => some .air | 6 => some .recover
  | _ => none

/-- The frame kinds and their codes (R44). -/
inductive FrameKind where
  | halt | fired | missed | claim | sight | status
  deriving DecidableEq, Repr

def FrameKind.code : FrameKind → Nat
  | .halt => 0 | .fired => 1 | .missed => 2 | .claim => 3 | .sight => 4 | .status => 5

def FrameKind.ofCode? : Nat → Option FrameKind
  | 0 => some .halt | 1 => some .fired | 2 => some .missed
  | 3 => some .claim | 4 => some .sight | 5 => some .status
  | _ => none

/-- Payload bytes of each kind (Table 3-1, Table 3-2). -/
def FrameKind.payloadBytes : FrameKind → Nat
  | .halt => 1 | .fired => 10 | .missed => 10 | .claim => 10 | .sight => 14 | .status => 5

/-- The station states (R77, R175), with the codes of READ-STATE (Table 10-8). -/
inductive Mode where
  | setup | run | held
  deriving DecidableEq, Repr

def Mode.code : Mode → Nat
  | .setup => 0 | .run => 1 | .held => 2

/-- The status byte of a response (R167). -/
inductive PortStatus where
  | ok | busy | unknown | badId | lanes | geometry | bands
  deriving DecidableEq, Repr

def PortStatus.code : PortStatus → Nat
  | .ok => 0 | .busy => 1 | .unknown => 2 | .badId => 3 | .lanes => 4 | .geometry => 5 | .bands => 6

/-- The fourteen alert flags (Table 10-4). -/
inductive Flag where
  | reverse | stall | scanSkip | objOverflow | mute | dupId | gaps | rxOverrun
  | peerLost | held | airLow | chute | watch | trackFull
  deriving DecidableEq, Repr

/-- The bit of a flag (Table 10-4). -/
def Flag.bit : Flag → Fin 14
  | .reverse => 0 | .stall => 1 | .scanSkip => 2 | .objOverflow => 3 | .mute => 4 | .dupId => 5
  | .gaps => 6 | .rxOverrun => 7 | .peerLost => 8 | .held => 9 | .airLow => 10 | .chute => 11
  | .watch => 12 | .trackFull => 13

/-- The tallies (Table 10-5); FIRED and PASSED have one for each class. -/
inductive Tally where
  | reverse | stall
  | scanSkip | objOverflow | fines | sightDrop
  | stale | urgentDrop | muteDrop | txErr | rxCrc | dupId | gaps | rxOverrun | copyLoss
  | peerLost | held | watch
  | badGeometry | late | trackFull
  | fired (c : PieceClass) | passed (c : PieceClass)
  | missed | taken | discarded
  | unmatched | claimAdopt | claimLate | disagree | double | rescue | rescueLate
  deriving DecidableEq, Repr

/-- The place of a tally in the block (Table 10-5). -/
def Tally.index : Tally → Fin 43
  | .reverse => 0 | .stall => 1
  | .scanSkip => 2 | .objOverflow => 3 | .fines => 4 | .sightDrop => 5
  | .stale => 6 | .urgentDrop => 7 | .muteDrop => 8 | .txErr => 9 | .rxCrc => 10 | .dupId => 11
  | .gaps => 12 | .rxOverrun => 13 | .copyLoss => 14
  | .peerLost => 15 | .held => 16 | .watch => 17
  | .badGeometry => 18 | .late => 19 | .trackFull => 20
  | .fired .unknown => 21 | .fired .metal => 22 | .fired .wire => 23
  | .fired .foam => 24 | .fired .plastic => 25 | .fired .inert => 26
  | .passed .unknown => 27 | .passed .metal => 28 | .passed .wire => 29
  | .passed .foam => 30 | .passed .plastic => 31 | .passed .inert => 32
  | .missed => 33 | .taken => 34 | .discarded => 35
  | .unmatched => 36 | .claimAdopt => 37 | .claimLate => 38 | .disagree => 39
  | .double => 40 | .rescue => 41 | .rescueLate => 42

end Sys2Proof.Machine
end

