-- ==== Sys2Proof/Config.lean ====
section
/-! DEFINITION. What the part fixes for good (capacities and fixed numbers of the spec), and the one free value of the
model. The configuration RECORD of the part is state, in Machine/Record.lean. -/

namespace Sys2Proof.Config

/-- READ-IDENT's part code (Table 10-1, R168). -/
def partCode : Nat := 164

/-- READ-IDENT's revision (Table 10-1, R168). -/
def revision : Nat := 1

/-- The status byte that marks a sample link line ready (R22). -/
def readyStatus : Nat := 90

/-- Stamps the speed ring holds (R13). -/
def ringSize : Nat := 16

/-- Microseconds without a belt-unit advance that make a stall (R15). -/
def stallTime : Nat := 10000

/-- The longest valid speed measure, and the shortest one used (R136). -/
def slowestDelta : Nat := 160000
def fastestDelta : Nat := 2666

/-- Capacities: waiting count (R23), open objects (R29), sighting queue (R39), urgent queue (R51), inbox (R64), copy FIFO
(R66), track table (R87), flight list (R144), trace ring (R179). -/
def maxWaiting : Nat := 255
def maxObjects : Nat := 16
def maxSightings : Nat := 16
def maxUrgent : Nat := 8
def maxInbox : Nat := 16
def maxCopies : Nat := 8
def maxTracks : Nat := 64
def maxFlights : Nat := 24
def maxTrace : Nat := 32

/-- The greatest age a SIGHT frame carries (R50). -/
def maxAge : Nat := 4095

/-- Consecutive errored attempts that bring MUTE (R57), and errors that drop one entry (R56). -/
def muteErrors : Nat := 16
def dropErrors : Nat := 3

/-- The monitor unit's sampling interval in microseconds (R80). -/
def samplePeriod : Nat := 1000

/-- DESIGN CHOICE (log 3, log 4). The FREE VALUE behind every order the spec leaves open inside one command or one
microsecond: it has no body, so whatever is proved holds for every order. It is applied to State.freeCount. -/
opaque freePick : Nat → Nat

end Sys2Proof.Config
end

