-- ==== Sys2Proof/Machine/Modular.lean ====
section
/-! DEFINITION. Modular order of belt counts and times (00_scope 1.5, R7, R8), saturating sums, clamping, bytes of numbers,
and the free order of log 3 and log 4. -/

namespace Sys2Proof.Machine

/-- `a` is at or before `b`: (b - a) mod 2^w is less than 2^(w-1) (00_scope 1.5, R8). -/
def atOrBefore {w : Nat} (a b : BitVec w) : Bool := decide ((b - a).toNat < 2 ^ (w - 1))

/-- `a` lies ahead of `b`: it is not at or before it (R7). -/
def ahead {w : Nat} (a b : BitVec w) : Bool := !atOrBefore a b

/-- The distance from `a` to `b`, signed (00_scope 1.5, R7, R8). -/
def distance {w : Nat} (a b : BitVec w) : Int := (b - a).toInt

/-- The earlier and the later of two counts or times in modular order. -/
def earlier {w : Nat} (a b : BitVec w) : BitVec w := if atOrBefore a b then a else b
def later {w : Nat} (a b : BitVec w) : BitVec w := if atOrBefore a b then b else a

/-- A sum that stops at `limit` (00_scope 1.5, saturating fields). -/
def addUpTo (limit a b : Nat) : Nat := min limit (a + b)

/-- A value clamped to lo..hi (00_scope 1.5). -/
def clampNat (lo hi v : Nat) : Nat := max lo (min hi v)
def clampInt (lo hi v : Int) : Int := max lo (min hi v)

/-- The number of a byte, and multi-byte numbers high byte first (R44, R166). -/
def byteOf (n : Nat) : Byte := BitVec.ofNat 8 n
def bytes2 (n : Nat) : List Byte := [byteOf (n / 256), byteOf n]
def bytes3 (n : Nat) : List Byte := byteOf (n / 65536) :: bytes2 n
def bytes4 (n : Nat) : List Byte := byteOf (n / 16777216) :: bytes3 n

/-- A list in a free order: at each place the free value chooses which of the elements left comes next. A list of at most
one element has one order, and the free value is not asked. The first argument is the free counter, the second the fuel. -/
def arrange {α : Type} (k : Nat) : Nat → List α → List α
  | 0, xs => xs
  | n + 1, xs =>
    match xs with
    | [] => []
    | [x] => [x]
    | x :: y :: rest =>
      let all := x :: y :: rest
      let i := Config.freePick k % all.length
      (all[i]?).toList ++ arrange (k + 1) n (all.eraseIdx i)

end Sys2Proof.Machine
end

