-- ==== Sys2Proof/Machine/Record.lean ====
section
/-! DEFINITION. The configuration record (Table 10-3): its 117 bytes, its fields, its cold defaults, and the writing and
clamping of R169 and R170. -/

namespace Sys2Proof.Machine

/-- The record is an image of 117 bytes, written and read by offset (section 10.2). -/
structure Record where
  bytes : Vector Byte 117
  deriving DecidableEq, Repr

/-! ## Fields (Table 10-3) -/

def Record.byte (r : Record) (i : Nat) : Byte := (r.bytes[i]?).getD 0
def Record.byteAt (r : Record) (i : Nat) : Nat := (r.byte i).toNat
/-- A two-byte field, high byte first. -/
def Record.wordAt (r : Record) (i : Nat) : Nat := r.byteAt i * 256 + r.byteAt (i + 1)

def Record.role (r : Record) : Role := Role.ofCode (r.byteAt 0)
def Record.laneBase (r : Record) : Nat := r.byteAt 1
def Record.laneCount (r : Record) : Nat := r.byteAt 2
def Record.kind (r : Record) : SensorKind := SensorKind.ofCode (r.byteAt 3)
/-- The sensor-line position P_s. -/
def Record.sensorLine (r : Record) : Nat := r.wordAt 4
/-- The belt-head position H. -/
def Record.beltHead (r : Record) : Nat := r.wordAt 6
/-- The encoder pitch P. -/
def Record.pitch (r : Record) : Nat := r.wordAt 8
def Record.countedEdge (r : Record) : CountedEdge := CountedEdge.ofCode (r.byteAt 10)
/-- The scan pitch S. -/
def Record.scanPitch (r : Record) : Nat := r.byteAt 11
def Record.presenceThreshold (r : Record) : Nat := r.byteAt 12
/-- The lane mask: local lane i at bit i, 1 = not masked. -/
def Record.laneMask (r : Record) : BitVec 32 := r.byte 13 ++ r.byte 14 ++ r.byte 15 ++ r.byte 16

/-- A hint band (R37). -/
structure Band where
  enabled : Bool
  cls     : PieceClass
  lo      : Nat
  hi      : Nat
  deriving DecidableEq, Repr

def Record.band (r : Record) (k : Nat) : Band :=
  { enabled := (r.byteAt (17 + 3 * k)).testBit 7
    cls := PieceClass.ofCode (r.byteAt (17 + 3 * k) % 8)
    lo := r.byteAt (18 + 3 * k)
    hi := r.byteAt (19 + 3 * k) }

def Record.bands (r : Record) : List Band := [r.band 0, r.band 1, r.band 2, r.band 3]

def Record.maxSightingLength (r : Record) : Nat := r.wordAt 29
def Record.minArea (r : Record) : Nat := r.byteAt 31
def Record.curtain (r : Record) : Nat := r.byteAt 32
/-- The flight distance D. -/
def Record.flightDistance (r : Record) : Nat := r.wordAt 33
def Record.drift (r : Record) (c : PieceClass) : Int := (r.byte (35 + c.code)).toInt
def Record.isTarget (r : Record) (c : PieceClass) : Bool := (r.byteAt 41).testBit c.code
def Record.isRescue (r : Record) (c : PieceClass) : Bool := (r.byteAt 42).testBit c.code
def Record.classRank (r : Record) (c : PieceClass) : Nat := r.byteAt (43 + c.code)
/-- The weight w[kind][class], for classes 1..5 (R101); class 0 has no weight and adds nothing. -/
def Record.weight (r : Record) (k : SensorKind) (c : PieceClass) : Nat :=
  match c with
  | .unknown => 0
  | .metal | .wire | .foam | .plastic | .inert => r.byteAt (49 + 5 * k.code + (c.code - 1))
/-- The verdict threshold T. -/
def Record.threshold (r : Record) : Nat := r.wordAt 69
/-- The verdict margin M. -/
def Record.margin (r : Record) : Nat := r.wordAt 71
/-- The verdict distance V. -/
def Record.verdictDistance (r : Record) : Nat := r.wordAt 73
/-- The association tolerance W. -/
def Record.tolerance (r : Record) : Nat := r.byteAt 75
def Record.maxEjectLength (r : Record) : Nat := r.wordAt 76
def Record.leadMargin (r : Record) : Nat := r.byteAt 78
def Record.trailMargin (r : Record) : Nat := r.byteAt 79
def Record.spread (r : Record) : Nat := r.byteAt 80
def Record.minPulse (r : Record) : Nat := r.wordAt 81
def Record.maxOpen (r : Record) : Nat := r.wordAt 83
def Record.recovery (r : Record) : Nat := r.wordAt 85
/-- The air budget B and the low-air budget B_low. -/
def Record.budget (r : Record) : Nat := r.byteAt 87
def Record.budgetLow (r : Record) : Nat := r.byteAt 88
/-- The degraded policy is SWEEP; otherwise PASS. -/
def Record.sweep (r : Record) : Bool := r.byteAt 89 == 1
/-- The beacon interval in microseconds (units of 10 ms). -/
def Record.beaconInterval (r : Record) : Nat := r.byteAt 90 * 10000
def Record.activeLow (r : Record) (i : Nat) : Bool := (r.byteAt (91 + i)).testBit 7
def Record.inputFunction (r : Record) (i : Nat) : InputFunction := InputFunction.ofCode (r.byteAt (91 + i) % 8)
def Record.watchMask (r : Record) : Byte := r.byte 99
def Record.watchPattern (r : Record) : Byte := r.byte 100
def Record.alertLevel (r : Record) (f : Fin 14) : Nat := r.byteAt (101 + f.val)
def Record.alertThreshold (r : Record) : Nat := r.byteAt 115
def Record.copies (r : Record) (k : FrameKind) : Bool := (r.byteAt 116).testBit k.code

/-! ## Cold defaults (Table 10-3) -/

def coldRecordBytes : List Byte :=
  ([0, 0, 32, 0] ++ [0, 0] ++ [15, 160] ++ [3, 232] ++ [0, 2, 64] ++ [255, 255, 255, 255])
  ++ ([0, 0, 255] ++ [0, 0, 255] ++ [0, 0, 255] ++ [0, 0, 255] ++ [1, 144] ++ [4, 0] ++ [1, 44])
  ++ (List.replicate 6 0 ++ [0, 0] ++ List.replicate 6 0 ++ List.replicate 20 8)
  ++ ([3, 232] ++ [0, 200] ++ [1, 44] ++ [10] ++ [4, 176] ++ [10, 10, 0] ++ [7, 208] ++ [156, 64] ++ [11, 184])
  ++ ([12, 4, 0, 10] ++ List.replicate 8 0 ++ [0, 0] ++ List.replicate 14 4 ++ [4, 0])

def Record.cold : Record := ⟨⟨coldRecordBytes.toArray, rfl⟩⟩

/-! ## Writing and clamping (R169, R170) -/

/-- How a field is brought into its range (R170). -/
inductive Clamp where
  /-- A number of one or two bytes, unsigned. -/
  | unsigned (lo hi : Nat)
  /-- A number of one byte, signed. -/
  | signed (lo hi : Int)
  /-- A byte whose unnamed bits are held as 0. -/
  | masked (bits : Byte)
  /-- A byte with one mark in bit 7 and a code 0..hi in bits 2..0, its other bits held as 0. -/
  | marked (hi : Nat)
  deriving DecidableEq, Repr

/-- A field of the record: its offset, its bytes and its clamp. -/
structure Field where
  offset : Nat
  size   : Nat
  clamp  : Clamp
  deriving DecidableEq, Repr

/-- The same field `n` times, one after another. -/
def repeatField (offset n : Nat) (c : Clamp) : List Field := (List.range n).map fun i => ⟨offset + i, 1, c⟩

/-- The fields of Table 10-3 whose range does not hold every value of their bytes. -/
def recordFields : List Field :=
  [⟨0, 1, .unsigned 0 2⟩, ⟨1, 1, .unsigned 0 191⟩, ⟨2, 1, .unsigned 1 32⟩, ⟨3, 1, .unsigned 0 3⟩,
   ⟨8, 2, .unsigned 100 20000⟩, ⟨10, 1, .unsigned 0 2⟩, ⟨11, 1, .unsigned 1 8⟩, ⟨12, 1, .unsigned 1 255⟩]
  ++ [⟨17, 1, .marked 5⟩, ⟨20, 1, .marked 5⟩, ⟨23, 1, .marked 5⟩, ⟨26, 1, .marked 5⟩,
      ⟨29, 2, .unsigned 50 1000⟩, ⟨31, 1, .unsigned 1 255⟩, ⟨32, 1, .unsigned 0 3⟩, ⟨33, 2, .unsigned 0 1023⟩]
  ++ repeatField 35 6 (.signed (-64) 63)
  ++ [⟨41, 1, .masked 63⟩, ⟨42, 1, .masked 63⟩]
  ++ repeatField 43 6 (.unsigned 0 7)
  ++ repeatField 49 20 (.unsigned 0 15)
  ++ [⟨71, 2, .unsigned 1 65535⟩, ⟨73, 2, .unsigned 50 2000⟩, ⟨75, 1, .unsigned 0 63⟩,
      ⟨76, 2, .unsigned 50 1500⟩, ⟨78, 1, .unsigned 0 63⟩, ⟨79, 1, .unsigned 0 63⟩, ⟨80, 1, .unsigned 0 2⟩,
      ⟨81, 2, .unsigned 500 20000⟩, ⟨83, 2, .unsigned 5000 60000⟩, ⟨85, 2, .unsigned 1000 20000⟩,
      ⟨87, 1, .unsigned 1 32⟩, ⟨88, 1, .unsigned 0 32⟩, ⟨89, 1, .unsigned 0 1⟩, ⟨90, 1, .unsigned 1 255⟩]
  ++ repeatField 91 8 (.marked 4)
  ++ repeatField 101 14 (.unsigned 0 7)
  ++ [⟨115, 1, .unsigned 1 8⟩, ⟨116, 1, .masked 63⟩]

/-- One byte written; a place at offset 117 or beyond is ignored (R169). -/
def Record.setByte (r : Record) (i : Nat) (b : Byte) : Record := ⟨r.bytes.setIfInBounds i b⟩

/-- A two-byte field written, high byte first. -/
def Record.setWord (r : Record) (i : Nat) (v : Nat) : Record := (r.setByte i (byteOf (v / 256))).setByte (i + 1) (byteOf v)

/-- The data bytes of a write put into the record from `offset` on (R169). -/
def Record.put (r : Record) (offset : Nat) : List Byte → Record
  | [] => r
  | b :: rest => (r.setByte offset b).put (offset + 1) rest

/-- A field brought into its range (R170). -/
def Record.clampField (r : Record) (f : Field) : Record :=
  match f.clamp with
  | .unsigned lo hi =>
    if f.size = 2 then r.setWord f.offset (clampNat lo hi (r.wordAt f.offset))
    else r.setByte f.offset (byteOf (clampNat lo hi (r.byteAt f.offset)))
  | .signed lo hi => r.setByte f.offset (BitVec.ofInt 8 (clampInt lo hi (r.byte f.offset).toInt))
  | .masked bits => r.setByte f.offset (r.byte f.offset &&& bits)
  | .marked hi =>
    r.setByte f.offset ((r.byte f.offset &&& 128) ||| byteOf (min hi (r.byteAt f.offset % 8)))

/-- The write of `n` bytes from `offset` touched the field. -/
def Field.touchedBy (f : Field) (offset n : Nat) : Bool :=
  decide (0 < n) && decide (f.offset < offset + n) && decide (offset < f.offset + f.size)

/-- The minimum pulse is brought down to the maximum open time, and B_low to B (R143, R170). -/
def Record.agree (r : Record) : Record :=
  let r1 := if r.maxOpen < r.minPulse then r.setWord 81 r.maxOpen else r
  if r1.budget < r1.budgetLow then r1.setByte 88 (byteOf r1.budget) else r1

/-- The number of bytes of a write that lie inside the record (R169). -/
def bytesWritten (offset n : Nat) : Nat := min n (117 - offset)

/-- WRITE-CONFIG's change of the record: the bytes, then the clamps of every field touched, then the two agreements (R170). -/
def Record.write (r : Record) (offset : Nat) (data : List Byte) : Record :=
  (((recordFields.filter fun f => f.touchedBy offset data.length).foldl Record.clampField (r.put offset data))).agree

/-- The field holds a value of its range (Table 10-3). -/
def Record.holds (r : Record) (f : Field) : Bool :=
  match f.clamp with
  | .unsigned lo hi =>
    if f.size = 2 then decide (lo ≤ r.wordAt f.offset) && decide (r.wordAt f.offset ≤ hi)
    else decide (lo ≤ r.byteAt f.offset) && decide (r.byteAt f.offset ≤ hi)
  | .signed lo hi => decide (lo ≤ (r.byte f.offset).toInt) && decide ((r.byte f.offset).toInt ≤ hi)
  | .masked bits => r.byte f.offset &&& ~~~bits == 0
  | .marked hi => (r.byte f.offset &&& 120 == 0) && decide (r.byteAt f.offset % 8 ≤ hi)

/-- Every field holds a value of its range (Table 10-3), and the two agreements of R170 hold. -/
def Record.inRange (r : Record) : Bool :=
  recordFields.all r.holds && decide (r.minPulse ≤ r.maxOpen) && decide (r.budgetLow ≤ r.budget)

end Sys2Proof.Machine
end

