-- ==== Sys2Proof/Machine/State.lean ====
section
/-! DEFINITION. Everything the spec gives the part to hold, as plain data, with its values after cold start. What the spec
names and is determined by these fields (flight list, open count, budget in force, chute inhibit, own halt, ALERT and valve
outputs) is computed from them: log 19. -/

namespace Sys2Proof.Machine

/-! ## Belt counter (chapter 1) -/

/-- The stall state (R15): MOVING with its stall due time, or STOPPED, which has none. -/
inductive Motion where
  | moving (stallDue : Time)
  | stopped
  deriving DecidableEq, Repr

/-- Table 1-1. -/
structure Belt where
  count       : Count
  accumulator : Nat
  timebase    : Time
  scanPhase   : Nat
  /-- The speed ring, oldest stamp first (R13). -/
  ring        : List Time
  /-- The speed measure: Δ16, or NONE (R14). -/
  measure     : Option Time
  motion      : Motion
  deriving DecidableEq, Repr

/-! ## Scan unit (chapter 2) -/

/-- A span of local lanes, both ends included. -/
structure Span where
  first : Nat
  last  : Nat
  deriving DecidableEq, Repr

/-- The sample link state (R21): an exchange holds the stamp of the scan requested, the time of its last bit, and the mark
that a warm restart made it void (R25). -/
inductive SampleLink where
  | idle
  | exchange (stamp : Count) (ends : Time) (void : Bool)
  deriving DecidableEq, Repr

/-- Table 2-2. -/
structure OpenObject where
  firstTouched : Count
  lastTouched  : Count
  laneSpan     : Span
  lastScanSpan : Span
  area         : Nat
  magnitudeSum : Nat
  peak         : Nat
  cont         : Bool
  deriving DecidableEq, Repr

/-- Table 2-1. The held line is its raw presence and its magnitudes. -/
structure ScanUnit where
  link           : SampleLink
  waiting        : Nat
  heldPresence   : BitVec 32
  heldMagnitudes : Vector Byte 32
  lastRaw        : BitVec 32
  filtered       : BitVec 32
  objects        : List OpenObject
  continuations  : List Span
  serial         : Byte
  deriving DecidableEq, Repr

/-- A sighting (Table 2-7). -/
structure Sighting where
  sender    : Nat
  serial    : Byte
  kind      : SensorKind
  sensorLine : Nat
  lead      : Count
  laneFirst : Nat
  laneLast  : Nat
  length    : Nat
  area      : Nat
  hint      : PieceClass
  strength  : Nat
  peak      : Nat
  cut       : Bool
  cont      : Bool
  deriving DecidableEq, Repr

/-! ## Line link (chapter 3) -/

/-- What an urgent entry of kind FIRED, MISSED or CLAIM holds beside its kind, its reason and its error count (Table 3-3). -/
structure Report where
  anchorId     : Nat
  anchorSerial : Byte
  cls          : PieceClass
  curtain      : Nat
  aLead        : Count
  length       : Nat
  laneFirst    : Nat
  laneLast     : Nat
  deriving DecidableEq, Repr

/-- A frame offered to the urgent queue (R51). -/
inductive Urgent where
  | halt (assert : Bool) (cause : HaltCause)
  | fired (report : Report)
  | missed (reason : MissReason) (report : Report)
  | claim (report : Report)
  deriving DecidableEq, Repr

structure UrgentEntry where
  content : Urgent
  errors  : Nat
  deriving DecidableEq, Repr

structure SightingEntry where
  sighting : Sighting
  errors   : Nat
  deriving DecidableEq, Repr

/-- The queue an attempt's entry stands in. -/
inductive Source where
  | urgent | sighting | beacon
  deriving DecidableEq, Repr

/-- The entry of an attempt: still in its place; a STATUS that has since been replaced in the beacon slot (R52); or gone
with the queues at a warm restart (R58). -/
inductive EntryFate where
  | present | replaced | gone
  deriving DecidableEq, Repr

/-- An attempt in progress (section 3.4), with the frame on the wire. -/
structure Attempt where
  source : Source
  fate   : EntryFate
  frame  : WireFrame
  deriving DecidableEq, Repr

/-- The link transmitter (sections 3.3 to 3.5). The beacon slot holds the error count of its STATUS. -/
structure Transmitter where
  urgent      : List UrgentEntry
  sightings   : List SightingEntry
  beacon      : Option Nat
  beaconDue   : Option Time
  sequence    : Byte
  consecutive : Nat
  mute        : Bool
  attempt     : Option Attempt
  deriving DecidableEq, Repr

/-- The line as this station sees it (R45): neither idle nor in a frame; idle; receiving a frame, with the mark that the own
transmitter has sent it past arbitration (R61); or receiving a frame that the own transmitter has broken by driving the line
dominant after a bit error (R56). -/
inductive LineStatus where
  | waiting
  | idle
  | receiving (own : Bool)
  | broken
  deriving DecidableEq, Repr

/-- The line and the start-edge stamp (R48). -/
structure LineLink where
  status : LineStatus
  cSof   : Count
  tSof   : Time
  deriving DecidableEq, Repr

/-- What an outcome frame carries beside its kind and reason (Table 3-1). -/
structure OutcomeBody where
  anchorId     : Nat
  anchorSerial : Byte
  cls          : PieceClass
  curtain      : Nat
  /-- The remaining distance, signed. -/
  remaining    : BitVec 16
  length       : Nat
  laneFirst    : Nat
  laneLast     : Nat
  deriving DecidableEq, Repr

/-- What a SIGHT frame carries (Table 3-1). -/
structure SightBody where
  serial     : Byte
  kind       : SensorKind
  cut        : Bool
  cont       : Bool
  age        : Nat
  sensorLine : Nat
  laneFirst  : Nat
  laneLast   : Nat
  length     : Nat
  area       : Nat
  hint       : PieceClass
  strength   : Nat
  peak       : Nat
  deriving DecidableEq, Repr

/-- The fields of a peer that a STATUS fills (Table 4-1). -/
structure Description where
  role       : Role
  curtain    : Nat
  kind       : SensorKind
  laneBase   : Nat
  laneCount  : Nat
  sensorLine : Nat
  deriving DecidableEq, Repr

/-- What a STATUS frame carries (Table 3-1). -/
structure StatusBody where
  held     : Bool
  haltFlag : Bool
  about    : Description
  deriving DecidableEq, Repr

/-- The payload of a frame, read (Table 3-1). -/
inductive Body where
  | halt (assert : Bool) (cause : HaltCause)
  | fired (o : OutcomeBody)
  | missed (reason : MissReason) (o : OutcomeBody)
  | claim (o : OutcomeBody)
  | sight (b : SightBody)
  | status (b : StatusBody)
  deriving DecidableEq, Repr

/-- An inbox entry: an accepted frame with its start-edge stamp (R64, R65). -/
structure InboxEntry where
  sender : Nat
  body   : Body
  cSof   : Count
  tSof   : Time
  deriving DecidableEq, Repr

/-- A copy FIFO entry (R66, Table 10-7). -/
structure CopyEntry where
  kind     : FrameKind
  sender   : Nat
  sequence : Byte
  payload  : List Byte
  cSof     : Count
  tSof     : Time
  deriving DecidableEq, Repr

/-! ## Peer unit and monitor unit (chapter 4) -/

inductive PeerState where
  | unknown | live | lost
  deriving DecidableEq, Repr

/-- A peer table entry (Table 4-1); it is described when it holds a description. -/
structure Peer where
  state        : PeerState
  about        : Option Description
  haltFlag     : Bool
  lastSequence : Byte
  lastHeard    : Time
  lossDue      : Option Time
  deriving DecidableEq, Repr

/-- An entry after cold start and after warm restart (R68). -/
def Peer.cold : Peer :=
  { state := .unknown, about := none, haltFlag := false, lastSequence := 0, lastHeard := 0, lossDue := none }

inductive WatchState where
  | waiting | matched | unmatched
  deriving DecidableEq, Repr

/-- Table 4-3; the four conditions are held as their not-good marks. -/
structure Monitor where
  sampleDue     : Time
  lastSample    : Byte
  accepted      : Byte
  airLow        : Bool
  doorOpen      : Bool
  chuteNotReady : Bool
  stopRequested : Bool
  watch         : WatchState
  deriving DecidableEq, Repr

/-! ## Track unit (chapters 5 to 8) -/

inductive TrackState where
  | collecting | armed | watching | launched | coasting | firing
  deriving DecidableEq, Repr

/-- A pending mark (R109). -/
inductive Mark where
  | claimed (c : PieceClass)
  | rescue (c : PieceClass)
  deriving DecidableEq, Repr

/-- The flight part (R142). -/
structure Flight where
  launchTime : Time
  /-- The Δ16 used. -/
  delta      : Nat
  tOpen      : Time
  tClose     : Time
  deriving DecidableEq, Repr

/-- The scores of classes 1 to 5 (R101). -/
structure Scores where
  metal   : Nat
  wire    : Nat
  foam    : Nat
  plastic : Nat
  inert   : Nat
  deriving DecidableEq, Repr

/-- A track (Table 5-1). `made` is its place in the order of making (R87), by which flight list and commands refer to it. -/
structure Track where
  made         : Nat
  anchorId     : Nat
  anchorSerial : Byte
  aLead        : Count
  aTrail       : Count
  laneFirst    : Nat
  laneLast     : Nat
  scores       : Scores
  state        : TrackState
  cls          : PieceClass
  mark         : Option Mark
  degraded     : Bool
  oversize     : Bool
  trimmed      : Bool
  double       : Bool
  short        : Bool
  flight       : Option Flight
  valveSet     : Option (List (Fin 32))
  deriving DecidableEq, Repr

/-! ## Valve bank (chapter 9) -/

/-- A valve record (Table 9-1). -/
inductive Valve where
  | closed
  | opened (openedAt closeAt : Time)
  | resting (recoverUntil : Time)
  deriving DecidableEq, Repr

/-! ## Station port (chapter 10) -/

/-- How a track ends (Table 5-7). -/
inductive TrackEnd where
  | fired
  | missed (reason : MissReason)
  | passed
  | taken
  deriving DecidableEq, Repr

/-- A trace entry (R103, Table 10-6). -/
structure TraceEntry where
  anchorId     : Nat
  anchorSerial : Byte
  cls          : PieceClass
  outcome      : TrackEnd
  degraded     : Bool
  oversize     : Bool
  trimmed      : Bool
  double       : Bool
  short        : Bool
  aLead        : Count
  laneFirst    : Nat
  laneLast     : Nat
  tOpen        : Option Time
  deriving DecidableEq, Repr

/-- The latest slot when it holds an entry (R180). -/
structure Latest where
  entry : TraceEntry
  isNew : Bool
  deriving DecidableEq, Repr

/-- A value of a response that is formed at the moment of its first byte (R166): a value of READ-STATE (Table 10-8) or of an
entry of READ-PEERS (Table 10-9), by its place; the marks of READ-FLAGS (R176); a tally (R178). -/
inductive PortValue where
  | ofState (place : Nat)
  | ofPeer (id : Fin 24) (place : Nat)
  | flags
  | tally (index : Fin 43)
  deriving DecidableEq, Repr

/-- A response in progress (R166): the values not formed yet, the first of them at the time `due`, each later one so many
microseconds after the one before it. -/
structure Outgoing where
  values : List PortValue
  waits  : List Nat
  due    : Time
  deriving DecidableEq, Repr

/-! ## The whole part -/

/-- Everything the part holds, with the queue of commands that are waiting, first in first out. -/
structure State where
  /-- The part is held in reset (R175). -/
  inReset        : Bool
  /-- The id read from the strap pins when cold start completed (R168). -/
  strapId        : BitVec 5
  mode           : Mode
  record         : Record
  belt           : Belt
  scan           : ScanUnit
  /-- Sightings handed to the own track unit and not yet taken (R40). -/
  localSightings : List Sighting
  tx             : Transmitter
  line           : LineLink
  inbox          : List InboxEntry
  copies         : List CopyEntry
  peers          : Vector Peer 24
  /-- The halt set, station id k at bit k (R72, R86). -/
  haltSet        : BitVec 24
  /-- The OPERATOR halt cause (R74). -/
  operatorHalt   : Bool
  monitor        : Monitor
  /-- The track table, in table order (R87). -/
  tracks         : List Track
  /-- The number of the next track made: the model's own (log 18). -/
  nextMade       : Nat
  valves         : Vector Valve 32
  /-- The alert flags, at the bits of Table 10-4. -/
  flags          : BitVec 14
  tallies        : Vector (BitVec 32) 43
  trace          : List TraceEntry
  latest         : Option Latest
  /-- The bytes formed of the last response, status byte first; bytes clocked out beyond its end read 0 (R166). -/
  response       : List Byte
  /-- The rest of that response, while values of it are still to be formed (R166). -/
  outgoing       : Option Outgoing
  /-- The free counter behind Config.freePick: the model's own (log 3, log 4, log 21). -/
  freeCount      : Nat
  pending        : List Instr
  deriving DecidableEq, Repr

/-- Why the part would stop with a fault. It has no constructor: the spec describes no machine fault, every misfortune
having a tally, a flag or a status of its own, so no command of the model faults. -/
inductive Fault where
  deriving DecidableEq, Repr

/-- Why a command would have no meaning. -/
inductive Refusal where
  /-- Raised by exec's arm of a command that has no meaning yet, under the command's mnemonic; safe, since nothing is claimed
  of such a command. No arm raises it. -/
  | notModelled (mnemonic : String)
  deriving DecidableEq, Repr

/-! ## Cold values -/

/-- Table 1-1, after cold start. -/
def Belt.cold : Belt :=
  { count := 0, accumulator := 0, timebase := 0, scanPhase := 0, ring := [], measure := none, motion := .stopped }

/-- Table 2-1, after cold start (R42). -/
def ScanUnit.cold : ScanUnit :=
  { link := .idle, waiting := 0, heldPresence := 0, heldMagnitudes := Vector.replicate 32 0, lastRaw := 0, filtered := 0,
    objects := [], continuations := [], serial := 0 }

/-- The transmitter after cold start (R58). -/
def Transmitter.cold : Transmitter :=
  { urgent := [], sightings := [], beacon := none, beaconDue := none, sequence := 0, consecutive := 0, mute := false,
    attempt := none }

/-- The line after cold start: the station is receiving no frame and has not yet seen 11 recessive bits (R45, R48). -/
def LineLink.cold : LineLink := { status := .waiting, cSof := 0, tSof := 0 }

/-- Table 4-3, after cold start. -/
def Monitor.cold : Monitor :=
  { sampleDue := 1000, lastSample := 0, accepted := 0, airLow := false, doorOpen := false, chuteNotReady := false,
    stopRequested := false, watch := .waiting }

/-- Every block at its cold value with the strap pins at these levels (R175). The last two arguments are the model's own
fields, which no reset of the part touches. -/
def State.cold (straps : BitVec 5) (freeCount : Nat) (pending : List Instr) : State :=
  { inReset := false
    strapId := straps
    mode := .setup
    record := Record.cold
    belt := Belt.cold
    scan := ScanUnit.cold
    localSightings := []
    tx := Transmitter.cold
    line := LineLink.cold
    inbox := []
    copies := []
    peers := Vector.replicate 24 Peer.cold
    haltSet := 0
    operatorHalt := false
    monitor := Monitor.cold
    tracks := []
    nextMade := 0
    valves := Vector.replicate 32 .closed
    flags := 0
    tallies := Vector.replicate 43 0
    trace := []
    latest := none
    response := []
    outgoing := none
    freeCount := freeCount
    pending := pending }

/-- The part right after cold start (R175), strapped with id 0 (DESIGN CHOICE, log 11), with no command waiting. -/
def State.reset : State := State.cold 0 0 []

end Sys2Proof.Machine
end

