-- ==== Sys2Proof/Machine/Flags.lean ====
section
/-! DEFINITION. The alert flags and the ALERT output (R176, R177), the tallies (R178). -/

namespace Sys2Proof.Machine

/-- A tally as it stands (Table 10-5). -/
def State.tally (s : State) (t : Tally) : BitVec 32 := s.tallies[t.index]

/-- A counter of 32 bits advanced by `n`, stopping at its limit (R178). -/
def addTally (v : BitVec 32) (n : Nat) : BitVec 32 := BitVec.ofNat 32 (addUpTo 4294967295 v.toNat n)

/-- A tally advanced by `n`. -/
def State.bumpBy (s : State) (t : Tally) (n : Nat) : State :=
  { s with tallies := s.tallies.set t.index (addTally s.tallies[t.index] n) }

/-- A tally advanced by one. -/
def State.bump (s : State) (t : Tally) : State := s.bumpBy t 1

/-- A flag stands set. -/
def State.flagSet (s : State) (f : Flag) : Bool := s.flags.getLsbD f.bit.val

/-- A flag's cause occurs: it is set, whether it was set or clear before (R176). -/
def State.raise (s : State) (f : Flag) : State := { s with flags := s.flags ||| BitVec.twoPow 14 f.bit.val }

/-- The ALERT output is driven low: a set flag has an alert level at or above the threshold (R177). Every flag is clear
while the part is held in reset, so the line is then released (R175). -/
def State.alertLow (s : State) : Bool :=
  (List.finRange 14).any fun k => s.flags.getLsbD k.val && decide (s.record.alertThreshold ≤ s.record.alertLevel k)

end Sys2Proof.Machine
end

