-- ==== Sys2Proof/Machine/Operands.lean ====
section
/-! DEFINITION. What the line's frames carry (section 3.1): the payload of each kind written and read (Table 3-1), the CRC
(R47), and the receiver's decision (R60). -/

namespace Sys2Proof.Machine

/-! ## CRC (R47) -/

/-- One bit shifted into the CRC register: the divisor x^16 + x^12 + x^5 + 1 is applied when the bit leaving the top and the
bit shifted in differ. -/
def crcBit (reg : BitVec 16) (b : Bool) : BitVec 16 :=
  if reg.msb = b then reg <<< 1 else (reg <<< 1) ^^^ 0x1021

/-- The bits of a byte in the order sent, most significant first. -/
def bitsOf (b : Byte) : List Bool :=
  [b.getLsbD 7, b.getLsbD 6, b.getLsbD 5, b.getLsbD 4, b.getLsbD 3, b.getLsbD 2, b.getLsbD 1, b.getLsbD 0]

/-- The CRC of a frame's bytes, from a register of all ones. -/
def crcOf (bytes : List Byte) : BitVec 16 :=
  bytes.foldl (fun reg b => (bitsOf b).foldl crcBit reg) 0xFFFF

/-- The arbitration field: the kind code, then the sender id (R44). -/
def WireFrame.arbitration (f : WireFrame) : Byte := f.kind ++ f.sender

/-- The bit of the arbitration field sent `i`-th, the first being bit 0; a recessive bit is 1 (R44). -/
def WireFrame.arbitrationBit (f : WireFrame) (i : Fin 8) : Bool := (WireFrame.arbitration f).getLsbD (7 - i.val)

/-- The CRC over arbitration field, sequence number and payload (R47). -/
def WireFrame.goodCrc (f : WireFrame) (payload : List Byte) : BitVec 16 :=
  crcOf (WireFrame.arbitration f :: f.sequence :: payload)

/-! ## Writing payloads (Table 3-1) -/

def encodeOutcome (reason : Nat) (o : OutcomeBody) : List Byte :=
  [byteOf o.anchorId, o.anchorSerial, byteOf o.cls.code, byteOf (o.curtain * 16 + reason)]
    ++ bytes2 o.remaining.toNat ++ bytes2 o.length ++ [byteOf o.laneFirst, byteOf o.laneLast]

def encodeSight (b : SightBody) : List Byte :=
  [b.serial, byteOf (b.kind.code * 64 + b.cut.toNat * 32 + b.cont.toNat * 16 + b.age / 256), byteOf b.age]
    ++ bytes2 b.sensorLine ++ [byteOf b.laneFirst, byteOf b.laneLast] ++ bytes2 b.length ++ bytes2 b.area
    ++ [byteOf b.hint.code, byteOf b.strength, byteOf b.peak]

def encodeStatus (b : StatusBody) : List Byte :=
  [byteOf (b.held.toNat * 128 + b.haltFlag.toNat * 64 + b.about.role.code * 16 + b.about.curtain * 4 + b.about.kind.code),
   byteOf b.about.laneBase, byteOf b.about.laneCount] ++ bytes2 b.about.sensorLine

def Body.kind : Body → FrameKind
  | .halt _ _ => .halt
  | .fired _ => .fired
  | .missed _ _ => .missed
  | .claim _ => .claim
  | .sight _ => .sight
  | .status _ => .status

/-- The payload bytes a sender puts on the line. -/
def Body.encode : Body → List Byte
  | .halt on cause => [byteOf (on.toNat * 128 + cause.code)]
  | .fired o => encodeOutcome 0 o
  | .missed reason o => encodeOutcome reason.code o
  | .claim o => encodeOutcome 0 o
  | .sight b => encodeSight b
  | .status b => encodeStatus b

/-- A whole frame as this station sends it: CRC computed, end field recessive (R44, R47). -/
def frameOf (sender : BitVec 5) (sequence : Byte) (b : Body) : WireFrame :=
  let f : WireFrame :=
    { kind := BitVec.ofNat 3 b.kind.code, sender := sender, sequence := sequence, payload := b.encode, crc := 0,
      endField := 255 }
  { f with crc := WireFrame.goodCrc f f.payload }

/-! ## Reading payloads (Table 3-1, R60) -/

/-- Byte `i` of a payload as a number. -/
def at8 (p : List Byte) (i : Nat) : Nat := (p.getD i 0).toNat
/-- The two-byte number at byte `i`. -/
def at16 (p : List Byte) (i : Nat) : Nat := at8 p i * 256 + at8 p (i + 1)

def readHalt (p : List Byte) : Option Body :=
  if at8 p 0 / 4 % 32 = 0 then (HaltCause.ofCode? (at8 p 0 % 4)).map (Body.halt ((at8 p 0).testBit 7)) else none

/-- The fields common to FIRED, MISSED and CLAIM; none when one lies outside its range. -/
def readOutcome (p : List Byte) : Option OutcomeBody :=
  match PieceClass.ofCode? (at8 p 2) with
  | none => none
  | some c =>
    if at8 p 0 ≤ 23 ∧ at8 p 3 / 16 ≤ 3 ∧ 1 ≤ at16 p 6 ∧ at8 p 8 ≤ at8 p 9 ∧ at8 p 9 ≤ 191 then
      some { anchorId := at8 p 0, anchorSerial := p.getD 1 0, cls := c, curtain := at8 p 3 / 16,
             remaining := BitVec.ofNat 16 (at16 p 4), length := at16 p 6, laneFirst := at8 p 8, laneLast := at8 p 9 }
    else none

def readSight (p : List Byte) : Option SightBody :=
  match PieceClass.ofCode? (at8 p 11) with
  | none => none
  | some c =>
    if at8 p 5 ≤ at8 p 6 ∧ at8 p 6 ≤ 191 ∧ 1 ≤ at16 p 7 ∧ 1 ≤ at16 p 9 then
      some { serial := p.getD 0 0, kind := SensorKind.ofCode (at8 p 1 / 64), cut := (at8 p 1).testBit 5,
             cont := (at8 p 1).testBit 4, age := at8 p 1 % 16 * 256 + at8 p 2, sensorLine := at16 p 3,
             laneFirst := at8 p 5, laneLast := at8 p 6, length := at16 p 7, area := at16 p 9, hint := c,
             strength := at8 p 12, peak := at8 p 13 }
    else none

def readStatus (p : List Byte) : Option StatusBody :=
  match Role.ofCode? (at8 p 0 / 16 % 4) with
  | none => none
  | some role =>
    if at8 p 1 ≤ 191 ∧ 1 ≤ at8 p 2 ∧ at8 p 2 ≤ 32 ∧ at8 p 1 + at8 p 2 ≤ 192 then
      some { held := (at8 p 0).testBit 7, haltFlag := (at8 p 0).testBit 6,
             about := { role := role, curtain := at8 p 0 / 4 % 4, kind := SensorKind.ofCode (at8 p 0 % 4),
                        laneBase := at8 p 1, laneCount := at8 p 2, sensorLine := at16 p 3 } }
    else none

/-- A payload of a kind, read; none when a field lies outside the range of Table 3-1 (the last case of R60). -/
def readBody (k : FrameKind) (p : List Byte) : Option Body :=
  match k with
  | .halt => readHalt p
  | .fired => if at8 p 3 % 16 = 0 then (readOutcome p).map Body.fired else none
  | .missed => match MissReason.ofCode? (at8 p 3 % 16) with
    | some reason => (readOutcome p).map (Body.missed reason)
    | none => none
  | .claim => if at8 p 3 % 16 = 0 then (readOutcome p).map Body.claim else none
  | .sight => (readSight p).map Body.sight
  | .status => (readStatus p).map Body.status

/-- The payload bytes a receiver reads: as many as the kind gives (R59; log 15 for a list of another length). -/
def WireFrame.payloadRead (f : WireFrame) (k : FrameKind) : List Byte :=
  (List.range k.payloadBytes).map fun i => f.payload.getD i 0

/-- A frame is accepted, with what it carries, or discarded (R60). -/
def acceptFrame (f : WireFrame) : Option Body :=
  match FrameKind.ofCode? f.kind.toNat with
  | none => none
  | some k =>
    if 24 ≤ f.sender.toNat then none
    else if f.crc ≠ WireFrame.goodCrc f (WireFrame.payloadRead f k) then none
    else if f.endField ≠ 255 then none
    else readBody k (WireFrame.payloadRead f k)

end Sys2Proof.Machine
end

