-- ==== Sys2Proof/Machine/Ops.lean ====
section
/-! DEFINITION. The named operations every command is made of: acting out of reset, answering at the port, the track table,
the flight list (R144), the valve records (R150), the own halt (R74). -/

namespace Sys2Proof.Machine

/-- What a command does to the part: `f` when the part is out of reset. While it is held in reset the encoder, the line and
the port are ignored (R18, R45, R59, R166, R175). -/
def State.act (s : State) (f : State → State) : Host.Outcome State Fault Refusal :=
  .next (if s.inReset then s else f s)

/-- A new transaction: what was still to be formed of the last response is lost (R166). -/
def State.dropResponse (s : State) : State := { s with outgoing := none }

/-- A response whose bytes are settled when its command is taken: its status byte, then its other bytes (R166, R167). -/
def State.answer (s : State) (status : PortStatus) (rest : List Byte) : State :=
  { s.dropResponse with response := byteOf status.code :: rest }

/-- The station is in RUN or HELD. -/
def State.operating (s : State) : Bool := s.mode != .setup

/-! ## Track table (R87) -/

def State.findTrack (s : State) (id : Nat) : Option Track := s.tracks.find? fun t => t.made == id

/-- A change of one track that leaves its A_lead, and so its place, alone. -/
def State.updateTrack (s : State) (id : Nat) (f : Track → Track) : State :=
  { s with tracks := s.tracks.map fun t => if t.made = id then f t else t }

def State.removeTrack (s : State) (id : Nat) : State := { s with tracks := s.tracks.filter fun t => t.made != id }

/-- `a` stands before `b` in the table: by the distance from the current count to A_lead, then by the order of making (R87). -/
def standsBefore (current : Count) (a b : Track) : Bool :=
  decide (distance current a.aLead < distance current b.aLead)
    || (decide (distance current a.aLead = distance current b.aLead) && decide (a.made < b.made))

/-- A track put into its place (R87). -/
def placeTrack (current : Count) (t : Track) : List Track → List Track
  | [] => [t]
  | u :: rest => if standsBefore current t u then t :: u :: rest else u :: placeTrack current t rest

/-- The length of a track: the distance from A_lead to A_trail, plus one (R112, R133, R141). -/
def Track.length (t : Track) : Nat := (t.aTrail - t.aLead).toNat + 1

/-! ## Flight list (R144) -/

/-- The next due time of a track in flight: t_open for LAUNCHED and COASTING, t_close for FIRING. -/
def Track.nextDue (t : Track) : Option Time :=
  match t.state, t.flight with
  | .launched, some f => some f.tOpen
  | .coasting, some f => some f.tOpen
  | .firing, some f => some f.tClose
  | _, _ => none

def Track.inFlight (t : Track) : Bool :=
  match t.state with
  | .launched => true | .coasting => true | .firing => true
  | .collecting => false | .armed => false | .watching => false

/-- An entry of the flight list: a reference to a track, with its next due time. -/
structure FlightEntry where
  due   : Time
  track : Nat
  deriving DecidableEq, Repr

/-- An entry put in its place by its due time, behind the entries of equal due time that stand in the list. -/
def placeFlight (now : Time) (e : FlightEntry) : List FlightEntry → List FlightEntry
  | [] => [e]
  | d :: rest => if distance now e.due < distance now d.due then e :: d :: rest else d :: placeFlight now e rest

/-- The flight list: one entry for each track in flight, by due time read from the current timebase, entries of equal due
time in table order (R144). -/
def State.flightList (s : State) : List FlightEntry :=
  s.tracks.foldl (fun acc t => match t.nextDue with
    | some due => placeFlight s.belt.timebase ⟨due, t.made⟩ acc
    | none => acc) []

/-- The number of entries of the flight list. -/
def State.flights (s : State) : Nat := s.tracks.countP Track.inFlight

/-! ## Valve records (R150, R151, R160) -/

def Valve.isOpen : Valve → Bool
  | .opened _ _ => true | .closed => false | .resting _ => false

def Valve.isClosed : Valve → Bool
  | .closed => true | .opened _ _ => false | .resting _ => false

/-- The driver output of a valve is driven: its record is OPEN (R150). Every record is CLOSED while the part is in reset. -/
def State.valveDriven (s : State) (i : Fin 32) : Bool := (s.valves[i]).isOpen

/-- The number of records in OPEN (R150). -/
def State.openCount (s : State) : Nat := s.valves.toList.countP Valve.isOpen

/-- The budget in force (R151, R82). -/
def State.budgetInForce (s : State) : Nat := if s.monitor.airLow then s.record.budgetLow else s.record.budget

/-- Chute inhibit (R160). -/
def State.chuteInhibit (s : State) : Bool := s.monitor.chuteNotReady

/-- A close of an OPEN record at the present time: RECOVER until the present time plus the recovery (R156). -/
def closeValve (now : Time) (recovery : Nat) (v : Valve) : Valve :=
  match v with
  | .opened _ _ => .resting (now + BitVec.ofNat 32 recovery)
  | .closed => .closed
  | .resting t => .resting t

/-- Every OPEN record closes at once (R78, R161, R162). -/
def State.closeAllValves (s : State) : State :=
  { s with valves := Vector.ofFn fun i => closeValve s.belt.timebase s.record.recovery s.valves[i] }

/-! ## Own halt and halt set (R72, R74) -/

/-- The own halt is asserted: DOOR, STOP or OPERATOR holds (R74). -/
def State.ownHalt (s : State) : Bool := s.monitor.doorOpen || s.monitor.stopRequested || s.operatorHalt

def State.inHaltSet (s : State) (id : Nat) : Bool := s.haltSet.getLsbD id
def State.addHalt (s : State) (id : Nat) : State := { s with haltSet := s.haltSet ||| BitVec.twoPow 24 id }
def State.removeHalt (s : State) (id : Nat) : State := { s with haltSet := s.haltSet &&& ~~~(BitVec.twoPow 24 id) }

/-- A change of one peer entry. -/
def State.updatePeer (s : State) (id : Fin 24) (f : Peer → Peer) : State :=
  { s with peers := s.peers.set id (f s.peers[id]) }

/-- The own entry's halt flag follows the own halt from START on (R68). -/
def State.ownFlag (s : State) (on : Bool) : State :=
  if h : s.strapId.toNat < 24 then
    if s.operating then s.updatePeer ⟨s.strapId.toNat, h⟩ fun p => { p with haltFlag := on } else s
  else s

end Sys2Proof.Machine
end

