-- ==== Sys2Proof/Machine/Transmit.lean ====
section
/-! DEFINITION. The link transmitter (sections 3.2 to 3.5): offers, the beginning of an attempt and its three ends, and the
meanings of LINE_IDLE, START_EDGE_LATCH, ARBITRATION_LOST, BIT_ERROR, ATTEMPT_COMPLETE and BEACON_DUE. -/

namespace Sys2Proof.Machine

/-! ## What an attempt sends -/

/-- The start-edge stamp is latched and a frame is being received (R48, R59). An own attempt begun inside ENCODER_EDGE latches the
count as it stands right after the advance that offered its frame, which R10 and R48 leave open: DESIGN CHOICE (log 29). -/
def State.latch (s : State) : State :=
  { s with line := { status := .receiving false, cSof := s.belt.count, tSof := s.belt.timebase } }

/-- The remaining distance r of a report at a start edge: A_lead less C_sof, signed, clamped to 16 bits (R49). -/
def remainingAt (cSof aLead : Count) : BitVec 16 := BitVec.ofInt 16 (clampInt (-32768) 32767 (distance cSof aLead))

/-- A report as the frame carries it. -/
def Report.body (r : Report) (cSof : Count) : OutcomeBody :=
  { anchorId := r.anchorId, anchorSerial := r.anchorSerial, cls := r.cls, curtain := r.curtain,
    remaining := remainingAt cSof r.aLead, length := r.length, laneFirst := r.laneFirst, laneLast := r.laneLast }

/-- An urgent entry as the frame carries it (Table 3-3). -/
def Urgent.body (u : Urgent) (cSof : Count) : Body :=
  match u with
  | .halt on cause => .halt on cause
  | .fired r => .fired (r.body cSof)
  | .missed reason r => .missed reason (r.body cSof)
  | .claim r => .claim (r.body cSof)

/-- The age of a sighting at a start edge (R49; log 14 for a lead ahead of C_sof). -/
def Sighting.age (x : Sighting) (cSof : Count) : Nat := (cSof - x.lead).toNat

/-- A sighting whose age would exceed 4,095 is stale (R50). -/
def Sighting.stale (x : Sighting) (cSof : Count) : Bool := decide (Config.maxAge < x.age cSof)

def Sighting.body (x : Sighting) (cSof : Count) : Body :=
  .sight { serial := x.serial, kind := x.kind, cut := x.cut, cont := x.cont, age := x.age cSof,
           sensorLine := x.sensorLine, laneFirst := x.laneFirst, laneLast := x.laneLast, length := x.length,
           area := x.area, hint := x.hint, strength := x.strength, peak := x.peak }

/-- The station described from the record (R49, R68). -/
def Record.about (r : Record) : Description :=
  { role := r.role, curtain := r.curtain, kind := r.kind, laneBase := r.laneBase, laneCount := r.laneCount,
    sensorLine := r.sensorLine }

/-- The fields of a STATUS, filled at its start edge (R49). -/
def State.statusBody (s : State) : Body :=
  .status { held := s.mode == .held, haltFlag := s.inHaltSet s.strapId.toNat, about := s.record.about }

/-! ## Beginning an attempt (R45, R50, R53) -/

def State.hasFrame (s : State) : Bool := !s.tx.urgent.isEmpty || !s.tx.sightings.isEmpty || s.tx.beacon.isSome

/-- The attempt's frame is put on the line. -/
def State.send (s : State) (source : Source) (b : Body) : State :=
  { s with tx := { s.tx with attempt := some { source := source, fate := .present, frame := frameOf s.strapId s.tx.sequence b } } }

/-- Stale sightings leave the head of the sighting queue, with the STALE tally (R50). -/
def State.dropStale (s : State) : State :=
  let stale := s.tx.sightings.takeWhile fun e => e.sighting.stale s.line.cSof
  { s with tx := { s.tx with sightings := s.tx.sightings.dropWhile fun e => e.sighting.stale s.line.cSof } }.bumpBy
    .stale stale.length

/-- The head of the sighting queue, else the STATUS, is sent; with neither, the start bit already driven ends the attempt at
once and the line holds a broken frame (R50, R53). -/
def State.sendLesser (s : State) : State :=
  match s.tx.sightings with
  | e :: _ => s.send .sighting (e.sighting.body s.line.cSof)
  | [] => if s.tx.beacon.isSome then s.send .beacon s.statusBody else s

/-- The head of the first non-empty queue is sent, at the start edge just latched (R50, R53). -/
def State.sendHead (s : State) : State :=
  match s.tx.urgent with
  | e :: _ => s.send .urgent (e.content.body s.line.cSof)
  | [] => s.dropStale.sendLesser

/-- With the line idle, in RUN or HELD, out of MUTE and with a frame to send, the station begins an attempt (R45, R53). -/
def State.mayBegin (s : State) : Bool :=
  decide (s.line.status = .idle) && s.operating && !s.tx.mute && s.hasFrame

def State.begin (s : State) : State := if s.mayBegin then s.latch.sendHead else s

/-! ## Offers (R39, R51, R52) -/

/-- A frame offered to the urgent queue (R51). -/
def State.enqueueUrgent (s : State) (u : Urgent) : State :=
  if !s.operating then s
  else if s.tx.mute then s.bump .muteDrop
  else if Config.maxUrgent ≤ s.tx.urgent.length then s.bump .urgentDrop
  else { s with tx := { s.tx with urgent := s.tx.urgent ++ [{ content := u, errors := 0 }] } }

/-- An offer, and the attempt it begins when the line stands idle (R51, R53). -/
def State.offer (s : State) (u : Urgent) : State := (s.enqueueUrgent u).begin

/-- A sighting offered to the sighting queue (R39, R51). -/
def State.enqueueSighting (s : State) (x : Sighting) : State :=
  if !s.operating then s
  else if s.tx.mute then s.bump .muteDrop
  else if Config.maxSightings ≤ s.tx.sightings.length then s.bump .sightDrop
  else { s with tx := { s.tx with sightings := s.tx.sightings ++ [{ sighting := x, errors := 0 }] } }

def State.offerSighting (s : State) (x : Sighting) : State := (s.enqueueSighting x).begin

/-- An attempt whose STATUS has been replaced in the beacon slot (R52). -/
def Attempt.replace (a : Attempt) : Attempt :=
  if a.source = .beacon ∧ a.fate = .present then { a with fate := .replaced } else a

/-- A STATUS placed in the beacon slot (R51, R52). -/
def State.placeStatus (s : State) : State :=
  if !s.operating then s
  else if s.tx.mute then s.bump .muteDrop
  else { s with tx := { s.tx with beacon := some 0, attempt := s.tx.attempt.map Attempt.replace } }

/-! ## The ends of an attempt (R54 to R57) -/

/-- The entry of an attempt leaves its place (R54): the head of its queue, or the slot, a replaced STATUS emptying the slot
as well (R52). An entry gone at a warm restart has no place left (R58). -/
def Transmitter.dropEntry (t : Transmitter) (a : Attempt) : Transmitter :=
  match a.fate with
  | .gone => t
  | .present | .replaced =>
    match a.source with
    | .urgent => { t with urgent := t.urgent.drop 1 }
    | .sighting => { t with sightings := t.sightings.drop 1 }
    | .beacon => { t with beacon := none }

/-- The error count of the entry of an attempt. -/
def Transmitter.entryErrors (t : Transmitter) (a : Attempt) : Nat :=
  match a.source with
  | .urgent => (t.urgent.head?.map UrgentEntry.errors).getD 0
  | .sighting => (t.sightings.head?.map SightingEntry.errors).getD 0
  | .beacon => t.beacon.getD 0

/-- The error count of the entry of an attempt set. -/
def Transmitter.setErrors (t : Transmitter) (a : Attempt) (n : Nat) : Transmitter :=
  match a.source with
  | .urgent => { t with urgent := t.urgent.modifyHead fun e => { e with errors := n } }
  | .sighting => { t with sightings := t.sightings.modifyHead fun e => { e with errors := n } }
  | .beacon => { t with beacon := t.beacon.map fun _ => n }

/-- The errored entry: its error count rises, and at 3 it leaves its queue with TX-ERR (R56). A replaced STATUS and an entry
gone have no count to raise (R52, R58). -/
def State.chargeEntry (s : State) (a : Attempt) : State :=
  match a.fate with
  | .replaced | .gone => s
  | .present =>
    let n := s.tx.entryErrors a + 1
    if Config.dropErrors ≤ n then { s with tx := s.tx.dropEntry a }.bump .txErr
    else { s with tx := s.tx.setErrors a n }

/-- The transmitter enters MUTE (R57). -/
def State.enterMute (s : State) : State :=
  let n := s.tx.urgent.length + s.tx.sightings.length + s.tx.beacon.toList.length
  (({ s with tx := { s.tx with urgent := [], sightings := [], beacon := none, mute := true } }).bumpBy .muteDrop n).raise .mute

/-- The consecutive error count rises, and at 16 brings MUTE (R56, R57). -/
def State.countError (s : State) : State :=
  let n := min Config.muteErrors (s.tx.consecutive + 1)
  let s1 := { s with tx := { s.tx with consecutive := n } }
  if n = Config.muteErrors then s1.enterMute else s1

/-! ## The commands -/

/-- LINE_IDLE (R45, R53): the line becomes idle unless the station is receiving a frame, and a waiting frame begins. With
`startEdge`, a start edge of another station is taken first at this instant: the station does not begin, and receives that frame. -/
def execLineIdle (s : State) (startEdge : Bool := false) : Host.Outcome State Fault Refusal :=
  s.act fun s => match s.line.status with
    | .receiving _ | .broken => s
    | .waiting | .idle => if startEdge then s.latch else { s with line := { s.line with status := .idle } }.begin

/-- START_EDGE_LATCH (R45, R48, R59): on an idle line the dominant bit of another station is a start edge, which is latched, and
its frame is received. On a line that is not yet idle it begins no frame: the count of recessive bit times that it restarts ends
in LINE_IDLE (log 8). In a frame it is a bit of that frame (log 7). -/
def execStartEdgeLatch (s : State) : Host.Outcome State Fault Refusal :=
  s.act fun s => match s.line.status with
    | .waiting | .receiving _ | .broken => s
    | .idle => s.latch

/-- ARBITRATION_LOST (R46, R55): at an arbitration bit that was sent recessive the attempt ends, its entry keeping its place;
the frame is received on. At a bit sent dominant no arbitration is lost. -/
def execArbitrationLost (bit : Fin 8) (s : State) : Host.Outcome State Fault Refusal :=
  s.act fun s => match s.tx.attempt with
    | none => s
    | some a => if WireFrame.arbitrationBit a.frame bit then { s with tx := { s.tx with attempt := none } } else s

/-- The attempt ends at a bit error: the line is driven dominant for 8 bit times, so that no receiver, the station's own among
them, keeps the frame (R56). -/
def State.breakFrame (s : State) : State :=
  { s with tx := { s.tx with attempt := none }, line := { s.line with status := .broken } }

/-- BIT_ERROR (R56, R57): the attempt ends and its frame is broken; its entry is charged, then the consecutive error count
rises. -/
def execBitError (s : State) : Host.Outcome State Fault Refusal :=
  s.act fun s => match s.tx.attempt with
    | none => s
    | some a => (s.breakFrame.chargeEntry a).countError

/-- ATTEMPT_COMPLETE (R54): the entry leaves, the sequence number advances, the consecutive error count becomes 0; the frame
being received is the station's own (R61). -/
def execAttemptComplete (s : State) : Host.Outcome State Fault Refusal :=
  s.act fun s => match s.tx.attempt with
    | none => s
    | some a =>
      { s with
        tx := { s.tx.dropEntry a with attempt := none, sequence := s.tx.sequence + 1, consecutive := 0 }
        line := { s.line with status := .receiving true } }

/-- BEACON_DUE (R52): a STATUS is placed and the due time advances by one beacon interval. -/
def execBeaconDue (s : State) : Host.Outcome State Fault Refusal :=
  s.act fun s => match s.tx.beaconDue with
    | none => s
    | some due =>
      if atOrBefore due s.belt.timebase then
        let next := due + BitVec.ofNat 32 s.record.beaconInterval
        ({ s with tx := { s.tx with beaconDue := some next } }.placeStatus).begin
      else s

end Sys2Proof.Machine
end

