-- ==== Sys2Proof/Machine/Outcomes.lean ====
section
/-! DEFINITION. How a track ends (R103, R104, R133), the flight arithmetic (section 8.3), the grant (section 9.4). -/

namespace Sys2Proof.Machine

/-! ## The end of a track (R103) -/

/-- The tally of an outcome (Table 5-7). -/
def TrackEnd.tally (e : TrackEnd) (c : PieceClass) : Tally :=
  match e with
  | .fired => .fired c
  | .missed _ => .missed
  | .passed => .passed c
  | .taken => .taken

/-- The trace entry of a track at its outcome (R103). -/
def Track.traceEntry (t : Track) (e : TrackEnd) : TraceEntry :=
  { anchorId := t.anchorId, anchorSerial := t.anchorSerial, cls := t.cls, outcome := e, degraded := t.degraded,
    oversize := t.oversize, trimmed := t.trimmed, double := t.double, short := t.short, aLead := t.aLead,
    laneFirst := t.laneFirst, laneLast := t.laneLast, tOpen := t.flight.map Flight.tOpen }

/-- A trace entry joins the ring as the newest, the oldest leaving a full ring (R179), and is copied into the latest slot with
NEW set (R180). -/
def State.record32 (s : State) (x : TraceEntry) : State :=
  { s with trace := (s.trace ++ [x]).drop (s.trace.length + 1 - Config.maxTrace), latest := some { entry := x, isNew := true } }

/-- The outcome tally of a track, and DOUBLE with the FIRED of a track that carries it (R103, R128, R158). -/
def State.countEnd (s : State) (t : Track) (e : TrackEnd) : State :=
  let s1 := s.bump (e.tally t.cls)
  if e = .fired ∧ t.double then s1.bump .double else s1

/-- A track ends (R103): it leaves the table, and with it the flight list; its tally advances; its trace entry is written. -/
def State.endTrack (s : State) (t : Track) (e : TrackEnd) : State :=
  ((s.removeTrack t.made).countEnd t e).record32 (t.traceEntry e)

/-- The values of an outcome frame or CLAIM, taken from the track (R115, R133). -/
def State.report (s : State) (t : Track) : Report :=
  { anchorId := t.anchorId, anchorSerial := t.anchorSerial, cls := t.cls, curtain := s.record.curtain, aLead := t.aLead,
    length := min 65535 t.length, laneFirst := t.laneFirst, laneLast := t.laneLast }

/-- An armed track ends MISSED and offers its MISSED frame (R104, R133). -/
def State.missTrack (s : State) (t : Track) (reason : MissReason) : State :=
  (s.endTrack t (.missed reason)).offer (.missed reason (s.report t))

/-! ## Flight arithmetic (section 8.3) -/

/-- D_c: the flight distance corrected by the drift of a class, clamped to 0..1,023 (R139). -/
def Record.correctedDistance (r : Record) (c : PieceClass) : Nat :=
  (clampInt 0 1023 ((r.flightDistance : Int) + r.drift c)).toNat

/-- d_open: the lead margin before D_c, and not below 0 (R139). -/
def Record.openDistance (r : Record) (c : PieceClass) : Nat := r.correctedDistance c - r.leadMargin

/-- t_open (R140). -/
def Record.tOpenAt (r : Record) (c : PieceClass) (launch : Time) (delta : Nat) : Time :=
  launch + BitVec.ofNat 32 (r.openDistance c * delta / 16)

/-- The raw duration of a firing (R141, steps 1 and 2). -/
def Record.rawDuration (r : Record) (length delta : Nat) : Nat :=
  (min 4095 length + r.leadMargin + r.trailMargin) * delta / 16

/-- The duration (R141, steps 3 and 4). -/
def Record.duration (r : Record) (length delta : Nat) : Nat :=
  if r.rawDuration length delta < r.minPulse then r.minPulse
  else if r.maxOpen < r.rawDuration length delta then r.maxOpen
  else r.rawDuration length delta

/-- The raw duration is cut down: TRIMMED (R141, step 4). -/
def Record.trims (r : Record) (length delta : Nat) : Bool :=
  !decide (r.rawDuration length delta < r.minPulse) && decide (r.maxOpen < r.rawDuration length delta)

/-- The flight part worked at a launch (R137, R140, R142). -/
def Record.flightOf (r : Record) (t : Track) (launch : Time) (delta : Nat) : Flight :=
  { launchTime := launch, delta := delta, tOpen := r.tOpenAt t.cls launch delta
    tClose := r.tOpenAt t.cls launch delta + BitVec.ofNat 32 (r.duration t.length delta) }

/-- The Δ16 used at a launch, or none when the speed measure is not valid (R136). -/
def deltaUsed (measure : Option Time) : Option Nat :=
  match measure with
  | none => none
  | some d => if d.toNat ≤ Config.slowestDelta then some (max Config.fastestDelta d.toNat) else none

/-! ## The grant (section 9.4) -/

/-- Valve `i` is in the firing set of a track: its global lane lies in the track's lanes widened by the spread, in the window
and on the belt (R152). -/
def Record.fires (r : Record) (t : Track) (i : Fin 32) : Bool :=
  let g := r.laneBase + i.val
  decide (i.val < r.laneCount) && decide (g ≤ 191) && decide (t.laneFirst ≤ g + r.spread) && decide (g ≤ t.laneLast + r.spread)

/-- The firing set (R152). -/
def Record.firingSet (r : Record) (t : Track) : List (Fin 32) := (List.finRange 32).filter (r.fires t)

def State.sharedCount (s : State) (set : List (Fin 32)) : Nat := set.countP fun i => (s.valves[i]).isOpen
def State.newCount (s : State) (set : List (Fin 32)) : Nat := set.countP fun i => (s.valves[i]).isClosed

/-- The reason a request is refused for, the first that applies; none when it is granted (R153). -/
def State.refusal (s : State) (t : Track) : Option MissReason :=
  let set := s.record.firingSet t
  let needed := set.length
  if s.mode = .held then some .halt
  else if s.chuteInhibit then some .chute
  else if needed = 0 ∨ s.sharedCount set + s.newCount set < (needed + 1) / 2 then some .recover
  else if s.budgetInForce < s.openCount + s.newCount set then some .air
  else none

/-- A record of the firing set served at a grant (R154). -/
def serveValve (now tClose : Time) (maxOpen : Nat) (v : Valve) : Valve :=
  match v with
  | .closed => .opened now (earlier tClose (now + BitVec.ofNat 32 maxOpen))
  | .opened openedAt closeAt => .opened openedAt (later closeAt (earlier tClose (openedAt + BitVec.ofNat 32 maxOpen)))
  | .resting t => .resting t

/-- A close-at already reached falls due at once (R9, R154). -/
def settleValve (now : Time) (recovery : Nat) (v : Valve) : Valve :=
  match v with
  | .opened openedAt closeAt => if atOrBefore closeAt now then closeValve now recovery v else .opened openedAt closeAt
  | .closed => .closed
  | .resting t => .resting t

/-- The records after a grant to a track with this t_close: those of its firing set served, then settled (R154). -/
def State.serveValves (s : State) (t : Track) (tClose : Time) : State :=
  { s with valves := Vector.ofFn fun i =>
      if s.record.fires t i then
        settleValve s.belt.timebase s.record.recovery (serveValve s.belt.timebase tClose s.record.maxOpen s.valves[i])
      else s.valves[i] }

/-- The valve set of a granted track: the shared and the new valves of its firing set (R154). -/
def State.grantedSet (s : State) (t : Track) : List (Fin 32) :=
  (s.record.firingSet t).filter fun i => (s.valves[i]).isOpen || (s.valves[i]).isClosed

/-- A track whose t_close has already been reached at its grant ends at once (R9). -/
def State.settleTrack (s : State) (id : Nat) : State :=
  match s.findTrack id with
  | none => s
  | some t => match t.state, t.flight with
    | .firing, some f => if atOrBefore f.tClose s.belt.timebase then s.endTrack t .fired else s
    | _, _ => s

/-- A grant (R154): the records are served, the track becomes FIRING with its valve set and offers its FIRED frame. -/
def State.grant (s : State) (t : Track) (f : Flight) : State :=
  let granted := s.grantedSet t
  let s1 := (s.serveValves t f.tClose).updateTrack t.made fun u => { u with state := .firing, valveSet := some granted }
  (s1.offer (.fired (s.report t))).settleTrack t.made

/-- The request of a LAUNCHED track at the valve bank (R145, R153, R154). -/
def State.request (s : State) (id : Nat) : State :=
  match s.findTrack id with
  | none => s
  | some t => match t.state, t.flight with
    | .launched, some f => match s.refusal t with
      | some reason => s.missTrack t reason
      | none => s.grant t f
    | _, _ => s

/-! ## Launch (section 8.2) -/

/-- A launched track goes on to its t_open at once when that time has been reached (R9, R145, R146). -/
def State.openIfDue (s : State) (id : Nat) : State :=
  match s.findTrack id with
  | none => s
  | some t => match t.flight with
    | none => s
    | some f =>
      if atOrBefore f.tOpen s.belt.timebase then
        match t.state with
        | .launched => s.request id
        | .coasting => s.endTrack t .passed
        | _ => s
      else s

/-- The flight part is made and the track joins the flight list (R137, R138). -/
def State.fly (s : State) (t : Track) (launch : Time) (delta : Nat) (next : TrackState) : State :=
  (s.updateTrack t.made fun u =>
    { u with state := next, flight := some (s.record.flightOf t launch delta),
             trimmed := u.trimmed || s.record.trims t.length delta }).openIfDue t.made

/-- The launch of an ARMED track (R137). -/
def State.launchArmed (s : State) (t : Track) (launch : Time) (measure : Option Time) : State :=
  match deltaUsed measure with
  | none => s.missTrack t .speed
  | some delta => if Config.maxFlights ≤ s.flights then s.missTrack t .queue else s.fly t launch delta .launched

/-- The launch of a WATCHING track (R138). -/
def State.launchWatching (s : State) (t : Track) (launch : Time) (measure : Option Time) : State :=
  match deltaUsed measure with
  | none => s.endTrack t .passed
  | some delta => if Config.maxFlights ≤ s.flights then s.endTrack t .passed else s.fly t launch delta .coasting

end Sys2Proof.Machine
end

