-- ==== Sys2Proof/Machine/Halt.lean ====
section
/-! DEFINITION. The line hold (sections 4.2 and 4.3): RUN and HELD, the own halt's changes, the loss of a peer, and the meanings
of HALT_ASSERT, HALT_RELEASE, CLEAR_HALT and PEER_LOSS_DUE. -/

namespace Sys2Proof.Machine

/-! ## RUN and HELD (R77, R78) -/

/-- A FIRING track ends with SHORT (R78). -/
def State.endShort (s : State) (id : Nat) : State :=
  match s.findTrack id with
  | none => s
  | some t => s.endTrack { t with short := true } .fired

/-- The FIRING tracks, in the order in which entering HELD ends them: the spec leaves it open (log 4). -/
def State.firingOrder (s : State) : List Nat :=
  let ids := (s.tracks.filter fun t => t.state = .firing).map Track.made
  arrange s.freeCount ids.length ids

/-- The station enters HELD (R78, R161). -/
def State.enterHeld (s : State) : State :=
  let order := s.firingOrder
  let s1 := { s with mode := .held, freeCount := s.freeCount + order.length }.closeAllValves
  ((order.foldl State.endShort s1).bump .held).raise .held

/-- The station state set again after a change of the halt set (R77). -/
def State.settleMode (s : State) : State :=
  match s.mode with
  | .setup => s
  | .run => if s.haltSet = 0 then s else s.enterHeld
  | .held => if s.haltSet = 0 then { s with mode := .run } else s

/-! ## The own halt (R72, R75) -/

/-- What follows a change of an own cause, `was` being the own halt before it: at a change of the own halt the own id enters or
leaves the halt set, the own entry's halt flag follows, a HALT frame with this cause is offered, and the station state is set
again (R68, R75, R77). -/
def State.ownHaltChanged (s : State) (was : Bool) (cause : HaltCause) : State :=
  if s.ownHalt = was then s
  else if s.ownHalt then (((s.addHalt s.strapId.toNat).ownFlag true).offer (.halt true cause)).settleMode
  else (((s.removeHalt s.strapId.toNat).ownFlag false).offer (.halt false cause)).settleMode

/-- The OPERATOR cause set or cleared (R74). -/
def State.setOperator (s : State) (on : Bool) : State :=
  { s with operatorHalt := on }.ownHaltChanged s.ownHalt .operator

/-! ## The commands -/

/-- HALT_ASSERT (R74): sets OPERATOR, in every station state; status OK. -/
def execHaltAssert (s : State) : Host.Outcome State Fault Refusal :=
  s.act fun s => (s.setOperator true).answer .ok []

/-- HALT_RELEASE (R74): clears OPERATOR, in every station state; status OK. -/
def execHaltRelease (s : State) : Host.Outcome State Fault Refusal :=
  s.act fun s => (s.setOperator false).answer .ok []

/-- CLEAR-HALT is refused: the id is the own one or outside 0..23, or its entry is LIVE (R76). -/
def State.clearRefused (s : State) (id : Nat) : Bool :=
  if h : id < 24 then decide (id = s.strapId.toNat) || decide ((s.peers[id]).state = .live) else true

/-- CLEAR_HALT (R76): removes a silent peer's id, or answers BUSY. -/
def execClearHalt (id : Byte) (s : State) : Host.Outcome State Fault Refusal :=
  s.act fun s =>
    if s.clearRefused id.toNat then s.answer .busy []
    else (s.removeHalt id.toNat).settleMode.answer .ok []

/-- A peer falls LOST (R70). -/
def State.losePeer (s : State) (id : Fin 24) : State :=
  ((s.updatePeer id fun p => { p with state := .lost, lossDue := none }).bump .peerLost).raise .peerLost

/-- PEER_LOSS_DUE (R70): an entry whose loss due time has fallen due goes LOST. -/
def execPeerLossDue (id : Fin 24) (s : State) : Host.Outcome State Fault Refusal :=
  s.act fun s => match (s.peers[id]).lossDue with
    | none => s
    | some due => if atOrBefore due s.belt.timebase then s.losePeer id else s

end Sys2Proof.Machine
end

