-- ==== Sys2Proof/Machine/Monitors.lean ====
section
/-! DEFINITION. The monitor unit (sections 4.4 and 4.5): debouncing, conditions, watch, and the meaning of MONITOR_SAMPLE. -/

namespace Sys2Proof.Machine

/-! ## Levels, truth and conditions (R80, R81) -/

/-- The accepted levels after a sample: a level is accepted where the sample equals the last one (R80). -/
def acceptLevels (sample last accepted : Byte) : Byte :=
  let agree := ~~~(sample ^^^ last)
  (agree &&& sample) ||| (~~~agree &&& accepted)

/-- An input is true: high and ACTIVE-HIGH, or low and ACTIVE-LOW (R81). -/
def Record.inputTrue (r : Record) (accepted : Byte) (i : Nat) : Bool := Bool.xor (accepted.getLsbD i) (r.activeLow i)

/-- Some input bound to a function has this truth value. -/
def Record.anyInput (r : Record) (accepted : Byte) (f : InputFunction) (value : Bool) : Bool :=
  (List.range 8).any fun i => decide (r.inputFunction i = f) && (r.inputTrue accepted i == value)

/-- The pattern matches: every masked input's truth value equals its mark (R84). -/
def Record.watchMatches (r : Record) (accepted : Byte) : Bool :=
  (List.range 8).all fun i => !(r.watchMask.getLsbD i) || (r.inputTrue accepted i == r.watchPattern.getLsbD i)

/-! ## Passing the conditions on (R81 to R83, R74) -/

/-- The air condition; a change to low sets AIR-LOW (R82). -/
def State.setAir (s : State) (low : Bool) : State :=
  let s1 := { s with monitor := { s.monitor with airLow := low } }
  if low && !s.monitor.airLow then s1.raise .airLow else s1

/-- The chute condition; a change to not ready sets CHUTE (R83). -/
def State.setChute (s : State) (notReady : Bool) : State :=
  let s1 := { s with monitor := { s.monitor with chuteNotReady := notReady } }
  if notReady && !s.monitor.chuteNotReady then s1.raise .chute else s1

/-- The door condition, passed to the own halt (R74, R75). -/
def State.setDoor (s : State) (isOpen : Bool) : State :=
  { s with monitor := { s.monitor with doorOpen := isOpen } }.ownHaltChanged s.ownHalt .door

/-- The stop condition, passed to the own halt (R74, R75). -/
def State.setStop (s : State) (requested : Bool) : State :=
  { s with monitor := { s.monitor with stopRequested := requested } }.ownHaltChanged s.ownHalt .stop

/-- Door and stop passed on. When both change at once the spec leaves open which is taken first (R75): free (log 4). -/
def State.setDoorStop (s : State) (isOpen requested : Bool) : State :=
  if isOpen != s.monitor.doorOpen && requested != s.monitor.stopRequested then
    let s1 := { s with freeCount := s.freeCount + 1 }
    if Config.freePick s.freeCount % 2 = 0 then (s1.setDoor isOpen).setStop requested
    else (s1.setStop requested).setDoor isOpen
  else (s.setDoor isOpen).setStop requested

/-- The four conditions evaluated with the accepted levels as they stand (R81). -/
def State.evaluateConditions (s : State) : State :=
  let a := s.monitor.accepted
  let r := s.record
  ((s.setAir (r.anyInput a .airOk false)).setChute (r.anyInput a .chuteReady false)).setDoorStop
    (r.anyInput a .doorClosed false) (r.anyInput a .stopRequest true)

/-- The watch evaluated once (R84). -/
def State.evaluateWatch (s : State) : State :=
  match s.monitor.watch, s.record.watchMatches s.monitor.accepted with
  | .waiting, true => { s with monitor := { s.monitor with watch := .matched } }
  | .waiting, false => s
  | .matched, true => s
  | .matched, false => (({ s with monitor := { s.monitor with watch := .unmatched } }).bump .watch).raise .watch
  | .unmatched, true => { s with monitor := { s.monitor with watch := .matched } }
  | .unmatched, false => s

/-- The eight inputs sampled (R80). -/
def State.sampleInputs (s : State) (levels : Byte) : State :=
  { s with monitor := { s.monitor with
      sampleDue := s.monitor.sampleDue + BitVec.ofNat 32 Config.samplePeriod
      lastSample := levels
      accepted := acceptLevels levels s.monitor.lastSample s.monitor.accepted } }

/-- MONITOR_SAMPLE (R80, R81, R84): when the sample due time has fallen due, the inputs are sampled, the conditions evaluated, and
in RUN and HELD the watch. -/
def execMonitorSample (levels : Byte) (s : State) : Host.Outcome State Fault Refusal :=
  s.act fun s =>
    if atOrBefore s.monitor.sampleDue s.belt.timebase then
      let s1 := (s.sampleInputs levels).evaluateConditions
      if s1.operating then s1.evaluateWatch else s1
    else s

end Sys2Proof.Machine
end

