-- ==== Sys2Proof/Machine/Reports.lean ====
section
/-! DEFINITION. What the station port reports (chapter 10): the values of every response and the moments at which they are formed,
and the meanings of the commands that read or that clear flags and tallies. The bits of a response that its table does not name are
sent as 0: DESIGN CHOICE (log 30). -/

namespace Sys2Proof.Machine

/-- A byte whose bits are the given marks, bit 0 first. -/
def marks (bs : List Bool) : Nat := bs.foldr (fun b acc => b.toNat + 2 * acc) 0

/-! ## READ-STATE (Table 10-8) -/

def SampleLink.code : SampleLink → Nat
  | .idle => 0
  | .exchange _ _ _ => 1

/-- The transmitter state reported (R67). -/
def State.transmitterCode (s : State) : Nat :=
  if s.tx.attempt.isSome then 2 else if s.tx.mute then 3 else if s.operating then 1 else 0

def WatchState.code : WatchState → Nat
  | .waiting => 0 | .matched => 1 | .unmatched => 2

def Valve.code : Valve → Nat
  | .closed => 0 | .opened _ _ => 1 | .resting _ => 2

/-- The number of tracks in a state (R106). -/
def State.tracksIn (s : State) (x : TrackState) : Nat := s.tracks.countP fun t => t.state = x

/-- Four valve states to a byte, valve 4k in bits 1..0 (Table 10-8). -/
def State.valveByte (s : State) (k : Nat) : Nat :=
  let v := fun j : Nat => ((s.valves[4 * k + j]?).getD .closed).code
  v 0 + 4 * v 1 + 16 * v 2 + 64 * v 3

/-- Bytes 0 to 15: station state, belt counter, scan unit (R20, R43). Byte 8 has bits 6..5 at 0: DESIGN CHOICE (log 30). -/
def State.reportBelt (s : State) : List (List Byte) :=
  [[byteOf s.mode.code], bytes3 s.belt.count.toNat, bytes4 s.belt.timebase.toNat,
   [byteOf ((if s.belt.motion = .stopped then 128 else 0) + s.belt.ring.length)],
   bytes3 (match s.belt.measure with | none => 16777215 | some d => d.toNat),
   [byteOf s.scan.link.code], [byteOf s.scan.waiting], [byteOf s.scan.objects.length], [s.scan.serial]]

/-- Bytes 16 to 30: the line link (R67). -/
def State.reportLink (s : State) : List (List Byte) :=
  [[byteOf s.transmitterCode], [byteOf s.tx.urgent.length], [byteOf s.tx.sightings.length],
   [byteOf s.tx.beacon.isSome.toNat], [byteOf s.tx.consecutive], [s.tx.sequence], [byteOf s.inbox.length],
   [byteOf s.copies.length], bytes3 s.line.cSof.toNat, bytes4 s.line.tSof.toNat]

/-- Bytes 31 to 37: peer unit and monitor unit (R86). Byte 34 has bits 7..3, and byte 37 bits 7..6, at 0: DESIGN CHOICE (log 30). -/
def State.reportHalt (s : State) : List (List Byte) :=
  [bytes3 s.haltSet.toNat,
   [byteOf (marks [s.monitor.doorOpen, s.monitor.stopRequested, s.operatorHalt])],
   [s.monitor.accepted],
   [byteOf (marks ((List.range 8).map fun i => s.record.inputTrue s.monitor.accepted i))],
   [byteOf (marks [s.monitor.airLow, s.monitor.doorOpen, s.monitor.chuteNotReady, s.monitor.stopRequested]
      + 16 * s.monitor.watch.code)]]

/-- Bytes 38 to 60: track unit, flight list, valve bank (R106, R149, R164). Byte 60 has bits 7..2 at 0: DESIGN CHOICE (log 30). -/
def State.reportTracks (s : State) : List (List Byte) :=
  [[byteOf s.tracks.length], [byteOf (s.tracksIn .collecting)], [byteOf (s.tracksIn .armed)],
   [byteOf (s.tracksIn .watching)], [byteOf (s.tracksIn .launched)], [byteOf (s.tracksIn .coasting)],
   [byteOf (s.tracksIn .firing)], [byteOf s.flightList.length],
   bytes4 ((s.flightList.head?.map fun e => e.due.toNat).getD 0)]
    ++ (List.range 8).map (fun k => [byteOf (s.valveByte k)])
    ++ [[byteOf s.openCount], [byteOf s.budgetInForce], [byteOf (marks [s.monitor.airLow, s.chuteInhibit])]]

/-- The 44 values of READ-STATE with their bytes, 61 in all, in order (Table 10-8). The bits it does not name are 0: DESIGN CHOICE
(log 30). -/
def State.stateReport (s : State) : List (List Byte) := s.reportBelt ++ s.reportLink ++ s.reportHalt ++ s.reportTracks

/-! ## READ-PEERS (Table 10-9) -/

def PeerState.code : PeerState → Nat
  | .unknown => 0 | .live => 1 | .lost => 2

/-- The 8 values of one entry of READ-PEERS with their bytes, 12 in all; an entry not described reports its STATUS fields as 0
(R86, R182). Byte 0 has bits 7..5, and byte 1 bits 7..6, at 0: DESIGN CHOICE (log 30). -/
def Peer.report (p : Peer) (inSet : Bool) : List (List Byte) :=
  [[byteOf (p.state.code + 4 * p.about.isSome.toNat + 8 * p.haltFlag.toNat + 16 * inSet.toNat)]]
    ++ (match p.about with
        | none => [[0], [0], [0], [0, 0]]
        | some d => [[byteOf (d.role.code * 16 + d.curtain * 4 + d.kind.code)], [byteOf d.laneBase], [byteOf d.laneCount],
                     bytes2 d.sensorLine])
    ++ [[p.lastSequence], [0], bytes4 p.lastHeard.toNat]

/-! ## Trace, latest slot and copy FIFO (Table 10-6, Table 10-7) -/

def TrackEnd.code : TrackEnd → Nat
  | .fired => 0 | .missed _ => 1 | .passed => 2 | .taken => 3

def TrackEnd.reasonCode : TrackEnd → Nat
  | .missed reason => reason.code
  | .fired | .passed | .taken => 0

/-- The 13 bytes of a trace entry (Table 10-6). Byte 3 has bits 6..5 at 0: DESIGN CHOICE (log 30). -/
def TraceEntry.report (x : TraceEntry) : List Byte :=
  [byteOf x.anchorId, x.anchorSerial, byteOf (x.outcome.code * 64 + x.cls.code * 8 + x.outcome.reasonCode),
   byteOf (marks [x.short, x.double, x.trimmed, x.oversize, x.degraded, false, false, x.tOpen.isSome])]
    ++ bytes3 x.aLead.toNat ++ [byteOf x.laneFirst, byteOf x.laneLast]
    ++ bytes4 ((x.tOpen.map BitVec.toNat).getD 0)

def State.traceReport (s : State) : List Byte := byteOf s.trace.length :: s.trace.flatMap TraceEntry.report

/-- The marks byte of the latest slot, and its entry (R180). The marks have bits 7..2 at 0: DESIGN CHOICE (log 30). -/
def State.latestReport (s : State) : List Byte :=
  match s.latest with
  | none => 0 :: List.replicate 13 0
  | some l => byteOf (marks [true, l.isNew]) :: l.entry.report

/-- The 24 bytes of a copy entry (Table 10-7). -/
def CopyEntry.report (c : CopyEntry) : List Byte :=
  ([byteOf c.kind.code, byteOf c.sender, c.sequence] ++ bytes3 c.cSof.toNat ++ bytes4 c.tSof.toNat)
    ++ (c.payload ++ List.replicate 14 0).take 14

/-! ## The moments of the values (R166, R178, R182) -/

/-- The bytes of a value, formed now. The flags have bits 15 and 14 at 0: DESIGN CHOICE (log 30). -/
def State.valueBytes (s : State) (v : PortValue) : List Byte :=
  match v with
  | .ofState place => (s.stateReport[place]?).getD []
  | .ofPeer id place => (((s.peers[id]).report (s.inHaltSet id.val))[place]?).getD []
  | .flags => bytes2 s.flags.toNat
  | .tally index => bytes4 (s.tallies[index]).toNat

/-- The values of each response that has any, in the order sent. -/
def stateValues : List PortValue := (List.range 44).map .ofState
def peerValues : List PortValue := (List.finRange 24).flatMap fun id => (List.range 8).map fun place => .ofPeer id place
def tallyValues : List PortValue := (List.finRange 43).map .tally

/-- The values formed at this moment, with their bytes: those before the first wait. What is left is due when that wait has passed. -/
def State.formNow (s : State) : List PortValue → List Nat → List Byte × Option Outgoing
  | [], _ => ([], none)
  | v :: rest, [] => let f := s.formNow rest []; (s.valueBytes v ++ f.1, f.2)
  | v :: rest, 0 :: waits => let f := s.formNow rest waits; (s.valueBytes v ++ f.1, f.2)
  | v :: rest, (w + 1) :: waits =>
    ([], some { values := v :: rest, waits := waits, due := s.belt.timebase + BitVec.ofNat 32 (w + 1) })

/-- The response goes on with these values. -/
def State.goOn (s : State) (values : List PortValue) (waits : List Nat) : State :=
  let f := s.formNow values waits
  { s with response := s.response ++ f.1, outgoing := f.2 }

/-- A response whose values are formed at their own moments: the status byte OK at once, the values as `waits` says (R166). -/
def State.reply (s : State) (values : List PortValue) (waits : List Nat) : State := (s.answer .ok []).goOn values waits

/-- A value of the response in progress has come to its moment. -/
def State.valueFallen (s : State) : Bool :=
  match s.outgoing with
  | none => false
  | some o => atOrBefore o.due s.belt.timebase

/-- The value whose moment has come is formed, and those that follow it without a wait (R166). -/
def State.formValue (s : State) : State :=
  match s.outgoing with
  | none => s
  | some o =>
    if atOrBefore o.due s.belt.timebase then s.goOn o.values (0 :: o.waits) else s

/-! ## The commands -/

/-- READ_IDENT (R168). -/
def execReadIdent (s : State) : Host.Outcome State Fault Refusal :=
  s.act fun s => s.answer .ok [byteOf Config.partCode, byteOf Config.revision, byteOf s.strapId.toNat]

/-- READ_CONFIG (R171): the 117 bytes of the record. -/
def execReadConfig (s : State) : Host.Outcome State Fault Refusal :=
  s.act fun s => s.answer .ok s.record.bytes.toList

/-- READ_STATE (R182, Table 10-8). -/
def execReadState (s : State) (waits : List Nat := []) : Host.Outcome State Fault Refusal :=
  s.act fun s => s.reply stateValues waits

/-- READ_FLAGS (R176, Table 10-4): two bytes, the high one first. -/
def execReadFlags (s : State) (waits : List Nat := []) : Host.Outcome State Fault Refusal :=
  s.act fun s => s.reply [.flags] waits

/-- CLEAR_FLAGS (R176): the flags whose mask bit is 1 are cleared; bits 14 and 15 are ignored. -/
def execClearFlags (mask : BitVec 16) (s : State) : Host.Outcome State Fault Refusal :=
  s.act fun s => ({ s with flags := s.flags &&& ~~~(mask.setWidth 14) } : State).answer .ok []

/-- READ_TALLIES (R178): 43 tallies of four bytes, in index order. -/
def execReadTallies (s : State) (waits : List Nat := []) : Host.Outcome State Fault Refusal :=
  s.act fun s => s.reply tallyValues waits

/-- CLEAR_TALLIES (R178). -/
def execClearTallies (s : State) : Host.Outcome State Fault Refusal :=
  s.act fun s => ({ s with tallies := Vector.replicate 43 0 } : State).answer .ok []

/-- READ_PEERS (R86, R182, Table 10-9). -/
def execReadPeers (s : State) (waits : List Nat := []) : Host.Outcome State Fault Refusal :=
  s.act fun s => s.reply peerValues waits

/-- READ_TRACE (R179): the ring is read, not emptied. -/
def execReadTrace (s : State) : Host.Outcome State Fault Refusal := s.act fun s => s.answer .ok s.traceReport

/-- READ_LATEST (R180): the slot as it stood is answered, and NEW is cleared. -/
def execReadLatest (s : State) : Host.Outcome State Fault Refusal :=
  s.act fun s => ({ s with latest := s.latest.map fun l => { l with isNew := false } } : State).answer .ok s.latestReport

/-- READ_COPY (R181): the number of entries held, and the oldest entry, which leaves. -/
def execReadCopy (s : State) : Host.Outcome State Fault Refusal :=
  s.act fun s => match s.copies with
    | [] => s.answer .ok (0 :: List.replicate 24 0)
    | c :: rest => { s with copies := rest }.answer .ok (byteOf (rest.length + 1) :: c.report)

/-- UNKNOWN_COMMAND (R167): a command byte outside Table 10-1 is answered UNKNOWN; a byte of the table is another command's. -/
def execUnknownCommand (code : Byte) (s : State) : Host.Outcome State Fault Refusal :=
  s.act fun s => if knownCommand code then s else s.answer .unknown []

/-- TRANSACTION_ABANDON (R166): no effect, but that the response before it, if one was in progress, has ended. -/
def execTransactionAbandon (s : State) : Host.Outcome State Fault Refusal := s.act State.dropResponse

end Sys2Proof.Machine
end

