-- ==== Sys2Proof/Machine/Clock.lean ====
section
/-! DEFINITION. The part on its own (R8, R9, R166; log 1): the values of a response in progress are formed at their moments, the
due times that have fallen due put their commands into an empty queue, and when none has, a microsecond passes. -/

namespace Sys2Proof.Machine

/-- A due time has fallen due: the timebase has advanced to it, or it was set at or before it (R9). -/
def State.fallen (s : State) (due : Time) : Bool := atOrBefore due s.belt.timebase

/-- STALL (R15) and BEACON_DUE (R52). -/
def State.dueCounters (s : State) : List Instr :=
  (match s.belt.motion with
    | .stopped => []
    | .moving due => if s.fallen due then [.stall] else [])
  ++ (match s.tx.beaconDue with
    | none => []
    | some due => if s.fallen due then [.beaconDue] else [])

/-- PEER_LOSS_DUE (R70). -/
def State.duePeers (s : State) : List Instr :=
  (List.finRange 24).filterMap fun i => match (s.peers[i]).lossDue with
    | none => none
    | some due => if s.fallen due then some (.peerLossDue i) else none

/-- T_OPEN_DUE, once for the group (R155). -/
def State.dueOpening (s : State) : List Instr :=
  if s.tracks.any fun t => t.state = .launched && (t.nextDue.map s.fallen).getD false then [.tOpenDue] else []

/-- COASTING_T_OPEN and T_CLOSE_DUE (R146). -/
def State.dueTracks (s : State) : List Instr :=
  s.tracks.filterMap fun t => match t.state, t.nextDue with
    | .coasting, some due => if s.fallen due then some (.coastingTOpen t.made) else none
    | .firing, some due => if s.fallen due then some (.tCloseDue t.made) else none
    | _, _ => none

/-- CLOSE_AT_DUE and RECOVER_UNTIL_DUE (R156, R157). -/
def State.dueValves (s : State) : List Instr :=
  (List.finRange 32).filterMap fun i => match s.valves[i] with
    | .closed => none
    | .opened _ closeAt => if s.fallen closeAt then some (.closeAtDue i) else none
    | .resting t => if s.fallen t then some (.recoverUntilDue i) else none

/-- The commands of the due times that have fallen due and need nothing from outside. -/
def State.dueCommands (s : State) : List Instr :=
  s.dueCounters ++ s.duePeers ++ s.dueOpening ++ s.dueTracks ++ s.dueValves

/-- A due time has fallen due whose command brings levels or magnitudes from outside: the monitor sample (R80), the end of an
exchange (R21). -/
def State.awaitsOutside (s : State) : Bool :=
  s.fallen s.monitor.sampleDue
    || (match s.scan.link with
        | .idle => false
        | .exchange _ ends _ => s.fallen ends)

/-- A microsecond passes (R8). -/
def State.tick (s : State) : State := { s with belt := { s.belt with timebase := s.belt.timebase + 1 } }

/-- What the part does out of reset beside the port (log 1): the commands that have fallen due enter the queue, in a free order
(log 3); else a local sighting handed over is taken (R40); else the part waits for what the outside owes at this microsecond;
else a microsecond passes. -/
def State.turn (s : State) : State :=
  if s.dueCommands ≠ [] then
    { s with pending := arrange s.freeCount s.dueCommands.length s.dueCommands
             freeCount := s.freeCount + s.dueCommands.length }
  else if s.localSightings ≠ [] then { s with pending := [.localSightingTaken] }
  else if s.awaitsOutside then s
  else s.tick

/-- The part with no command waiting (log 1). In reset the timebase is held (R18). A value of a response whose moment has come is
formed; where something else is due at this microsecond, either is first (log 3). -/
def State.idle (s : State) : State :=
  if s.inReset then s
  else if s.valueFallen then
    if s.dueCommands = [] ∧ s.localSightings = [] then s.formValue
    else
      let s1 := { s with freeCount := s.freeCount + 1 }
      if Config.freePick s.freeCount % 2 = 0 then s1.formValue
      else { s1.turn with pending := s1.turn.pending.take 1 }
  else s.turn

end Sys2Proof.Machine
end

