-- ==== Sys2Proof/Machine/Tracks.lean ====
section
/-! DEFINITION. The track unit's work on sightings (chapter 5), the verdict (chapter 6), its belt events (R102), and the
meanings of SIGHT_TAKEN and LOCAL_SIGHTING_TAKEN. -/

namespace Sys2Proof.Machine

/-! ## Scores (R101, R108) -/

def Scores.zero : Scores := ⟨0, 0, 0, 0, 0⟩

/-- A contribution to the score of a class; class UNKNOWN has no score. -/
def Scores.add (x : Scores) (c : PieceClass) (n : Nat) : Scores :=
  match c with
  | .unknown => x
  | .metal => { x with metal := addUpTo 65535 x.metal n }
  | .wire => { x with wire := addUpTo 65535 x.wire n }
  | .foam => { x with foam := addUpTo 65535 x.foam n }
  | .plastic => { x with plastic := addUpTo 65535 x.plastic n }
  | .inert => { x with inert := addUpTo 65535 x.inert n }

/-- The scores of two tracks merged (R96). -/
def Scores.merge (x y : Scores) : Scores :=
  ⟨addUpTo 65535 x.metal y.metal, addUpTo 65535 x.wire y.wire, addUpTo 65535 x.foam y.foam,
   addUpTo 65535 x.plastic y.plastic, addUpTo 65535 x.inert y.inert⟩

/-- The scores with their classes. -/
def Scores.ranked (x : Scores) : List (PieceClass × Nat) :=
  [(.metal, x.metal), (.wire, x.wire), (.foam, x.foam), (.plastic, x.plastic), (.inert, x.inert)]

/-- The highest of some scores, with its class; the first of equal ones. -/
def bestOf : List (PieceClass × Nat) → PieceClass × Nat
  | [] => (.unknown, 0)
  | p :: rest => let q := bestOf rest; if q.2 ≤ p.2 then p else q

/-- The class the scores give (R108). -/
def Scores.classOf (x : Scores) (threshold margin : Nat) : PieceClass :=
  let best := bestOf x.ranked
  let second := bestOf (x.ranked.erase best)
  if threshold ≤ best.2 ∧ second.2 + margin ≤ best.2 then best.1 else .unknown

/-! ## Verdict (R107 to R115) -/

/-- A LOST, described, sensing peer whose window shares a lane with the track (R110). -/
def Peer.uncovers (p : Peer) (t : Track) : Bool :=
  match p.state, p.about with
  | .lost, some d => d.role.senses && decide (d.laneBase ≤ t.laneLast) && decide (t.laneFirst ≤ d.laneBase + d.laneCount - 1)
  | _, _ => false

/-- The track is degraded at this moment (R110). -/
def State.lostCoverage (s : State) (t : Track) : Bool := s.peers.toList.any fun p => p.uncovers t

/-- The class after R108 and R109. -/
def Record.verdictClass (r : Record) (t : Track) : PieceClass :=
  match t.mark with
  | some (.claimed c) => c
  | some (.rescue c) => c
  | none => t.scores.classOf r.threshold r.margin

def Track.rescued (t : Track) : Bool :=
  match t.mark with
  | some (.rescue _) => true
  | some (.claimed _) => false
  | none => false

/-- The track after its verdict (R108 to R113): lost coverage decides first, then the length, then the target set. -/
def State.judged (s : State) (t : Track) : Track :=
  let c := s.record.verdictClass t
  let t1 := { t with cls := c, mark := none }
  if s.lostCoverage t then
    { t1 with degraded := true, state := if s.record.sweep then .armed else .watching }
  else if s.record.maxEjectLength < t.length then { t1 with oversize := true, state := .watching }
  else if s.record.isTarget c || t.rescued then { t1 with state := .armed }
  else { t1 with state := .watching }

/-- The track's lanes extend outside the station's own window (R114). -/
def Record.spansWindow (r : Record) (t : Track) : Bool :=
  decide (t.laneFirst < r.laneBase) || decide (r.laneBase + r.laneCount ≤ t.laneLast)

/-- The verdict of a COLLECTING track (R107): its new values, and its CLAIM (R114, R115). -/
def State.judge (s : State) (t : Track) : State :=
  let j := s.judged t
  let s1 := s.updateTrack t.made fun _ => j
  if j.state = .armed ∧ s.record.spansWindow t then s1.offer (.claim (s.report j)) else s1

/-- The verdict count of a track (R102). -/
def Record.verdictCount (r : Record) (t : Track) : Count := t.aLead - BitVec.ofNat 24 r.verdictDistance

/-- A COLLECTING track whose verdict count is at or before the current count is judged at once (R98). -/
def State.judgeIfDue (s : State) (id : Nat) : State :=
  match s.findTrack id with
  | none => s
  | some t =>
    if t.state = .collecting ∧ atOrBefore (s.record.verdictCount t) s.belt.count then s.judge t else s

/-! ## Association (R90 to R101) -/

/-- A sighting as the track unit works it: a SIGHT entry or a local sighting, with its lead on the own count. -/
structure Evidence where
  anchorId     : Nat
  anchorSerial : Byte
  kind         : SensorKind
  sensorLine   : Nat
  lead         : Count
  laneFirst    : Nat
  laneLast     : Nat
  length       : Nat
  hint         : PieceClass
  strength     : Nat
  deriving DecidableEq, Repr

/-- A SIGHT entry: its lead is C_sof less the age (R90). -/
def SightBody.evidence (b : SightBody) (sender : Nat) (cSof : Count) : Evidence :=
  { anchorId := sender, anchorSerial := b.serial, kind := b.kind, sensorLine := b.sensorLine,
    lead := cSof - BitVec.ofNat 24 b.age, laneFirst := b.laneFirst, laneLast := b.laneLast, length := b.length,
    hint := b.hint, strength := b.strength }

/-- A local sighting: its own lead count (R40, R90). -/
def Sighting.evidence (x : Sighting) : Evidence :=
  { anchorId := x.sender, anchorSerial := x.serial, kind := x.kind, sensorLine := x.sensorLine, lead := x.lead,
    laneFirst := x.laneFirst, laneLast := x.laneLast, length := x.length, hint := x.hint, strength := x.strength }

/-- The window test (R91): the lanes overlap the window widened by spread + 1 on each side. -/
def Record.admits (r : Record) (e : Evidence) : Bool :=
  decide (r.laneBase ≤ e.laneLast + r.spread + 1) && decide (e.laneFirst ≤ r.laneBase + r.laneCount + r.spread)

/-- The projected A_lead and A_trail (R90). -/
def Record.projectLead (r : Record) (e : Evidence) : Count := e.lead + BitVec.ofNat 24 (r.beltHead - e.sensorLine)
def Record.projectTrail (r : Record) (e : Evidence) : Count := r.projectLead e + BitVec.ofNat 24 e.length - 1

/-- The contribution of a sighting (R101). -/
def Record.contribution (r : Record) (e : Evidence) : Nat := r.weight e.kind e.hint * e.strength

/-- The track a sighting would make (R99, Table 5-1). -/
def Record.newTrack (r : Record) (e : Evidence) (made : Nat) : Track :=
  { made := made, anchorId := e.anchorId, anchorSerial := e.anchorSerial, aLead := r.projectLead e
    aTrail := r.projectTrail e, laneFirst := e.laneFirst, laneLast := e.laneLast
    scores := Scores.zero.add e.hint (r.contribution e), state := .collecting, cls := .unknown, mark := none
    degraded := false, oversize := false, trimmed := false, double := false, short := false, flight := none
    valveSet := none }

/-- Two intervals of belt counts overlap within the tolerance (R93, R121). -/
def overlapWithin (w : Nat) (lead1 trail1 lead2 trail2 : Count) : Bool :=
  atOrBefore lead1 (trail2 + BitVec.ofNat 24 w) && atOrBefore lead2 (trail1 + BitVec.ofNat 24 w)

/-- Two lane ranges overlap within one lane (R93, R121). -/
def lanesMeet (first1 last1 first2 last2 : Nat) : Bool := decide (first1 ≤ last2 + 1) && decide (first2 ≤ last1 + 1)

/-- A projected sighting matches a track (R93); the sighting stands as the track it would make. -/
def Record.matchesTrack (r : Record) (x t : Track) : Bool :=
  overlapWithin r.tolerance x.aLead x.aTrail t.aLead t.aTrail && lanesMeet x.laneFirst x.laneLast t.laneFirst t.laneLast

/-- The anchor of `x` is taken before that of `y`: by the earlier A_lead, then the lower anchor id, then the lower anchor
serial (R97). -/
def anchorsBefore (x y : Track) : Bool :=
  if x.aLead = y.aLead then
    decide (x.anchorId < y.anchorId)
      || (decide (x.anchorId = y.anchorId) && decide (x.anchorSerial.toNat < y.anchorSerial.toNat))
  else atOrBefore x.aLead y.aLead

/-- One constituent taken into a track (R95, R96, R97). State, class, mark, flags and order of making stay the track's. -/
def Track.absorb (t x : Track) : Track :=
  { t with
    anchorId := if anchorsBefore x t then x.anchorId else t.anchorId
    anchorSerial := if anchorsBefore x t then x.anchorSerial else t.anchorSerial
    aLead := earlier t.aLead x.aLead
    aTrail := later t.aTrail x.aTrail
    laneFirst := min t.laneFirst x.laneFirst
    laneLast := max t.laneLast x.laneLast
    scores := t.scores.merge x.scores }

/-- The pending mark of a merge: that of the earliest in the table among the tracks merged that carry one (R97). -/
def firstMark : List Track → Option Mark
  | [] => none
  | t :: rest => match t.mark with
    | some m => some m
    | none => firstMark rest

/-- The sighting joins the earliest of the COLLECTING tracks matched, and the others are merged into it (R94 to R97). -/
def joined (t : Track) (others : List Track) (x : Track) : Track :=
  { (others.foldl Track.absorb (t.absorb x)) with mark := firstMark (t :: others) }

/-- A join with its merges: the absorbed tracks leave, the track that remains takes its place, and R98 is applied (R95 to R98). -/
def State.join (s : State) (t : Track) (others : List Track) (x : Track) : State :=
  let gone := t.made :: others.map Track.made
  let kept := s.tracks.filter fun u => !gone.contains u.made
  ({ s with tracks := placeTrack s.belt.count (joined t others x) kept }).judgeIfDue t.made

/-- A new track is made, unless the table is full (R99, R100). -/
def State.make (s : State) (x : Track) : State :=
  if Config.maxTracks ≤ s.tracks.length then (s.bump .trackFull).raise .trackFull
  else ({ s with tracks := placeTrack s.belt.count x s.tracks, nextMade := s.nextMade + 1 }).judgeIfDue x.made

/-- A projected sighting that is not late, dealt with by Table 5-3 (R94). -/
def State.associate (s : State) (x : Track) : State :=
  let found := s.tracks.filter (s.record.matchesTrack x)
  match found.filter fun t => t.state = .collecting with
  | t :: others => s.join t others x
  | [] => if found.isEmpty then s.make x else s.bump .late

/-- The work of one sighting (R90 to R94). -/
def State.workSighting (s : State) (e : Evidence) : State :=
  if !s.record.admits e then s
  else if s.record.beltHead ≤ e.sensorLine then s.bump .badGeometry
  else
    let x := s.record.newTrack e s.nextMade
    if atOrBefore x.aLead s.belt.count then s.bump .late else s.associate x

/-! ## Belt events (R102) -/

/-- The counts of a track that a belt-unit advance may reach: its verdict count while COLLECTING, its launch count while ARMED
or WATCHING (R102, R135). -/
def State.beltDue (s : State) (t : Track) : Bool :=
  match t.state with
  | .collecting => s.record.verdictCount t == s.belt.count
  | .armed | .watching => t.aLead == s.belt.count
  | .launched | .coasting | .firing => false

/-- The verdict or launch of one track found at an advance (R102). -/
def State.beltEvent (stamp : Time) (s : State) (id : Nat) : State :=
  match s.findTrack id with
  | none => s
  | some t =>
    if s.beltDue t then
      match t.state with
      | .collecting => s.judge t
      | .armed => s.launchArmed t stamp s.belt.measure
      | .watching => s.launchWatching t stamp s.belt.measure
      | .launched | .coasting | .firing => s
    else s

/-- The tracks found at an advance, one after another in table order (R102). -/
def State.beltEvents (s : State) (stamp : Time) : State :=
  ((s.tracks.filter s.beltDue).map Track.made).foldl (State.beltEvent stamp) s

/-! ## The commands -/

/-- SIGHT_TAKEN (R65, R89, R90): the SIGHT at the head of the inbox is taken and worked. -/
def execSightTaken (s : State) : Host.Outcome State Fault Refusal :=
  s.act fun s => match s.operating, s.inbox with
    | true, ⟨sender, .sight b, cSof, _⟩ :: rest => { s with inbox := rest }.workSighting (b.evidence sender cSof)
    | _, _ => s

/-- LOCAL_SIGHTING_TAKEN (R40, R89): the oldest local sighting is taken and worked. -/
def execLocalSightingTaken (s : State) : Host.Outcome State Fault Refusal :=
  s.act fun s => match s.operating, s.localSightings with
    | true, x :: rest => { s with localSightings := rest }.workSighting x.evidence
    | _, _ => s

end Sys2Proof.Machine
end

