-- ==== Sys2Proof/Machine/Coordination.lean ====
section
/-! DEFINITION. Curtain coordination (chapter 7): the meanings of CLAIM_TAKEN, FIRED_TAKEN and MISSED_TAKEN. -/

namespace Sys2Proof.Machine

/-! ## Placing and matching (R120, R121) -/

/-- The frame's A_lead' on the own count (R120). -/
def OutcomeBody.placedLead (o : OutcomeBody) (cSof : Count) : Count := cSof + BitVec.ofInt 24 o.remaining.toInt
/-- The end of the frame's interval (R120). -/
def OutcomeBody.placedTrail (o : OutcomeBody) (cSof : Count) : Count := o.placedLead cSof + BitVec.ofNat 24 o.length - 1

/-- The track's interval overlaps the frame's within W (R121). -/
def Record.overlapsFrame (r : Record) (o : OutcomeBody) (cSof : Count) (t : Track) : Bool :=
  overlapWithin r.tolerance (o.placedLead cSof) (o.placedTrail cSof) t.aLead t.aTrail

/-- Step 1 of R121: by anchor. -/
def Record.matchesAnchor (r : Record) (o : OutcomeBody) (cSof : Count) (t : Track) : Bool :=
  (t.anchorId == o.anchorId) && (t.anchorSerial == o.anchorSerial) && r.overlapsFrame o cSof t

/-- Step 2 of R121: by interval and lanes. -/
def Record.matchesPlace (r : Record) (o : OutcomeBody) (cSof : Count) (t : Track) : Bool :=
  r.overlapsFrame o cSof t && lanesMeet o.laneFirst o.laneLast t.laneFirst t.laneLast

/-- The one track a considered entry is matched to, the earliest in the table of the first step with candidates (R121). -/
def State.matchFrame (s : State) (o : OutcomeBody) (cSof : Count) : Option Track :=
  match s.tracks.find? (s.record.matchesAnchor o cSof) with
  | some t => some t
  | none => s.tracks.find? (s.record.matchesPlace o cSof)

/-! ## Recomputation in flight (R125, R147) -/

/-- The flight part with t_open worked again for a class, the duration kept (R147). -/
def Record.recomputed (r : Record) (f : Flight) (c : PieceClass) : Flight :=
  { f with tOpen := r.tOpenAt c f.launchTime f.delta
           tClose := r.tOpenAt c f.launchTime f.delta + (f.tClose - f.tOpen) }

/-- A COASTING track reached by a frame of class `c`: armed in flight with tally `kept`, or too late with tally `tooLate` (R125). -/
def State.recompute (s : State) (t : Track) (c : PieceClass) (kept tooLate : Tally) : State :=
  match t.flight with
  | none => s
  | some f =>
    if ahead (s.record.recomputed f c).tOpen s.belt.timebase then
      (s.updateTrack t.made fun u =>
        { u with state := .launched, cls := c, flight := some (s.record.recomputed f c) }).bump kept
    else s.bump tooLate

/-- A WATCHING track armed by a frame (R124, R129): its class and state change, its flags stay. -/
def State.arm (s : State) (t : Track) (c : PieceClass) (tally : Tally) : State :=
  (s.updateTrack t.made fun u => { u with state := .armed, cls := c }).bump tally

/-! ## Effects -/

/-- The pending mark after a CLAIM of class `c` (R123). -/
def claimMark (m : Option Mark) (c : PieceClass) : Option Mark :=
  match m with
  | some (.rescue d) => some (.rescue d)
  | some (.claimed _) => some (.claimed c)
  | none => some (.claimed c)

/-- The effect of a considered CLAIM on its track (Table 7-2, R122). -/
def State.claimEffect (s : State) (t : Track) (c : PieceClass) : State :=
  match t.state with
  | .collecting => s.updateTrack t.made fun u => { u with mark := claimMark u.mark c }
  | .watching => if s.record.isTarget c then s.arm t c .claimAdopt else s
  | .coasting => if s.record.isTarget c then s.recompute t c .claimAdopt .claimLate else s
  | .armed | .launched => if t.cls = c then s else s.bump .disagree
  | .firing => s.bump .claimLate

/-- The effect of a considered FIRED on its track (Table 7-3, R126 to R128). -/
def State.firedEffect (s : State) (t : Track) : State :=
  match t.state with
  | .collecting | .armed | .watching | .launched | .coasting => s.endTrack t .taken
  | .firing => s.updateTrack t.made fun u => { u with double := true }

/-- The effect of a considered MISSED on its track (Table 7-4, R129, R130). -/
def State.missedEffect (s : State) (t : Track) (c : PieceClass) : State :=
  match t.state with
  | .collecting => s.updateTrack t.made fun u => { u with mark := some (.rescue c) }
  | .watching => s.arm t c .rescue
  | .coasting => s.recompute t c .rescue .rescueLate
  | .armed | .launched | .firing => s

/-- A considered entry, matched or counted UNMATCHED (R121). -/
def State.matched (s : State) (o : OutcomeBody) (cSof : Count) (effect : State → Track → State) : State :=
  match s.matchFrame o cSof with
  | some t => effect s t
  | none => s.bump .unmatched

/-! ## The commands (R89, R119) -/

/-- CLAIM_TAKEN: considered when the sender's curtain is the own one. -/
def execClaimTaken (s : State) : Host.Outcome State Fault Refusal :=
  s.act fun s => match s.operating, s.inbox with
    | true, ⟨_, .claim o, cSof, _⟩ :: rest =>
      let s1 := { s with inbox := rest }
      if o.curtain = s.record.curtain then s1.matched o cSof fun s t => s.claimEffect t o.cls else s1
    | _, _ => s

/-- FIRED_TAKEN: considered when the sender's curtain is upstream. -/
def execFiredTaken (s : State) : Host.Outcome State Fault Refusal :=
  s.act fun s => match s.operating, s.inbox with
    | true, ⟨_, .fired o, cSof, _⟩ :: rest =>
      let s1 := { s with inbox := rest }
      if o.curtain < s.record.curtain then s1.matched o cSof fun s t => s.firedEffect t else s1
    | _, _ => s

/-- MISSED_TAKEN: considered when the sender's curtain is upstream and the class is in the rescue set. -/
def execMissedTaken (s : State) : Host.Outcome State Fault Refusal :=
  s.act fun s => match s.operating, s.inbox with
    | true, ⟨_, .missed _ o, cSof, _⟩ :: rest =>
      let s1 := { s with inbox := rest }
      if o.curtain < s.record.curtain ∧ s.record.isRescue o.cls then
        s1.matched o cSof fun s t => s.missedEffect t o.cls
      else s1
    | _, _ => s

end Sys2Proof.Machine
end

