-- ==== Sys2Proof/Machine/Port.lean ====
section
/-! DEFINITION. Configuration, START and the restarts (sections 10.2 to 10.4): the meanings of WRITE_CONFIG, START, RESTART,
RESET_ASSERT and COLD_START. -/

namespace Sys2Proof.Machine

/-! ## WRITE_CONFIG (R5, R169 to R171) -/

/-- The accumulator under a new P: 0 when it is at least the new P, untouched when P stays (R5). -/
def Belt.repitch (b : Belt) (old new : Record) : Belt :=
  if old.pitch ≠ new.pitch ∧ new.pitch ≤ b.accumulator then { b with accumulator := 0 } else b

/-- A polarity or a function has changed (R81, R171). -/
def inputsChanged (old new : Record) : Bool :=
  (List.range 8).any fun i => old.byte (91 + i) != new.byte (91 + i)

/-- The record written, and what the blocks that run in SETUP make of it (R171). -/
def State.writeRecord (s : State) (offset : Nat) (data : List Byte) : State :=
  let r := s.record.write offset data
  let s1 := { s with record := r, belt := s.belt.repitch s.record r }
  if inputsChanged s.record r then s1.evaluateConditions else s1

/-- WRITE_CONFIG (R169): taken in SETUP when all its data bytes have come; BUSY in RUN and HELD; with bytes missing it is abandoned
(R166, log 15). -/
def execWriteConfig (offset count : Byte) (data : List Byte) (s : State) : Host.Outcome State Fault Refusal :=
  s.act fun s =>
    if data.length < count.toNat then s.dropResponse
    else if s.operating then s.answer .busy [0]
    else (s.writeRecord offset.toNat (data.take count.toNat)).answer .ok
      [byteOf (bytesWritten offset.toNat count.toNat)]

/-! ## START (R172, R173) -/

/-- A hint band that START refuses (R37, R167). -/
def Band.bad (b : Band) : Bool := b.enabled && decide (b.hi < b.lo)

/-- The status of a START in SETUP, the first check that fails deciding (R167, R172). -/
def State.startStatus (s : State) : PortStatus :=
  if 24 ≤ s.strapId.toNat then .badId
  else if 192 < s.record.laneBase + s.record.laneCount then .lanes
  else if s.record.role.senses && decide (s.record.beltHead ≤ s.record.sensorLine) then .geometry
  else if s.record.bands.any Band.bad then .bands
  else .ok

/-- The scan unit at START and, with the serial kept and an exchange made void, at warm restart (R42). -/
def ScanUnit.cleared (u : ScanUnit) : ScanUnit :=
  { u with waiting := 0, heldPresence := 0, heldMagnitudes := Vector.replicate 32 0, lastRaw := 0, filtered := 0,
           objects := [], continuations := [] }

/-- The own entry from START on: LIVE and described, its halt flag the own halt (R68). -/
def Peer.own (r : Record) (halted : Bool) : Peer :=
  { Peer.cold with state := .live, about := some r.about, haltFlag := halted }

def State.ownEntry (s : State) : State :=
  if h : s.strapId.toNat < 24 then s.updatePeer ⟨s.strapId.toNat, h⟩ fun _ => Peer.own s.record s.ownHalt else s

/-- The cause a HALT assert carries at START (R75). -/
def State.startCause (s : State) : HaltCause :=
  if s.monitor.doorOpen then .door else if s.monitor.stopRequested then .stop else .operator

/-- The HALT assert of a START with the own halt asserted (R75). -/
def State.startHalt (s : State) : State := if s.ownHalt then s.enqueueUrgent (.halt true s.startCause) else s

/-- An accepted START, one piece of work (R173): the first frame begins when all of it has taken effect (log 27). -/
def State.started (s : State) : State :=
  let s1 := { s with
    mode := .run
    belt := { s.belt with scanPhase := 0 }
    scan := { s.scan.cleared with serial := 0 }
    tx := { s.tx with beaconDue := some (s.belt.timebase + BitVec.ofNat 32 s.record.beaconInterval) }
    monitor := { s.monitor with watch := .waiting } }
  ((s1.ownEntry.placeStatus.startHalt.evaluateWatch).settleMode).begin

/-- START (R172, R173): BUSY in RUN and HELD; in SETUP refused with the status of its first failing check, or taken. -/
def execStart (s : State) : Host.Outcome State Fault Refusal :=
  s.act fun s =>
    if s.operating then s.answer .busy []
    else if s.startStatus = .ok then s.started.answer .ok []
    else s.answer s.startStatus []

/-! ## Restarts (R174, R175) -/

/-- An exchange in progress becomes void (R25). -/
def SampleLink.voided : SampleLink → SampleLink
  | .idle => .idle
  | .exchange stamp ends _ => .exchange stamp ends true

/-- The transmitter at warm restart (R58): queues and slot emptied, MUTE left, the sequence number kept, an attempt on the wire
running on without its entry. -/
def Transmitter.restarted (t : Transmitter) : Transmitter :=
  { t with urgent := [], sightings := [], beacon := none, beaconDue := none, consecutive := 0, mute := false,
           attempt := t.attempt.map fun a => { a with fate := .gone } }

/-- Warm restart (R174). -/
def State.warmRestart (s : State) : State :=
  let own := s.ownHalt
  let s1 := s.closeAllValves.bumpBy .discarded s.tracks.length
  { s1 with
    mode := .setup
    scan := { s.scan.cleared with link := s.scan.link.voided }
    localSightings := []
    tx := s.tx.restarted
    inbox := []
    copies := []
    peers := Vector.replicate 24 Peer.cold
    haltSet := if own then BitVec.twoPow 24 s.strapId.toNat else 0
    monitor := { s.monitor with watch := .waiting }
    tracks := [] }

/-- RESTART (R174): warm restart in RUN or HELD; in SETUP taken without any change. -/
def execRestart (s : State) : Host.Outcome State Fault Refusal :=
  s.act fun s => (if s.operating then s.warmRestart else s).answer .ok []

/-- RESET_ASSERT (R18, R163, R175): the part is held in reset; valves, line and ALERT are released. Its blocks take their cold
values at once (log 9). -/
def execResetAssert (s : State) : Host.Outcome State Fault Refusal :=
  .next { State.cold s.strapId s.freeCount s.pending with inReset := true }

/-- COLD_START (R175): every block holds its cold values, the strap id is read (R168). -/
def execColdStart (straps : BitVec 5) (s : State) : Host.Outcome State Fault Refusal :=
  .next (State.cold straps s.freeCount s.pending)

end Sys2Proof.Machine
end

