-- ==== Sys2Proof/Machine/Scan.lean ====
section
/-! DEFINITION. The scan unit (chapter 2): presence, runs, objects, sightings, scan events, and the meaning of
EXCHANGE_COMPLETE. -/

namespace Sys2Proof.Machine

/-! ## Presence (R26, R27) -/

/-- The raw presence of a line: the lane is in the window, not masked, and its magnitude reaches the threshold (R26). -/
def Record.rawPresence (r : Record) (mags : Vector Byte 32) : BitVec 32 :=
  BitVec.ofFnLE fun i : Fin 32 =>
    decide (i.val < r.laneCount) && r.laneMask.getLsbD i.val && decide (r.presenceThreshold ≤ (mags[i]).toNat)

/-- The magnitudes of a line: lanes beyond n are not read (section 2.2). -/
def Record.readLine (r : Record) (mags : Vector Byte 32) : Vector Byte 32 :=
  Vector.ofFn fun i => if i.val < r.laneCount then mags[i] else 0

/-- Filtered presence follows raw presence where two scans in a row agree (R27). -/
def filterPresence (raw last filtered : BitVec 32) : BitVec 32 :=
  let agree := ~~~(raw ^^^ last)
  (agree &&& raw) ||| (~~~agree &&& filtered)

/-! ## Runs and spans (R28) -/

/-- The smallest span holding both. -/
def Span.join (a b : Span) : Span := ⟨min a.first b.first, max a.last b.last⟩

/-- A run shares a lane with a span widened by one lane on each side. -/
def Span.near (run sp : Span) : Bool := decide (run.first ≤ sp.last + 1) && decide (sp.first ≤ run.last + 1)

def Span.lanes (a : Span) : Nat := a.last + 1 - a.first

/-- The runs of a presence among the lanes of a list of ascending lanes, `start` being the first lane of a run in progress. -/
def runsFrom (p : BitVec 32) (start : Option Nat) : List Nat → List Span
  | [] => match start with
    | some a => [⟨a, 31⟩]
    | none => []
  | i :: rest =>
    if p.getLsbD i then runsFrom p (some (start.getD i)) rest
    else match start with
      | some a => ⟨a, i - 1⟩ :: runsFrom p none rest
      | none => runsFrom p none rest

/-- The runs of a scan, in ascending lane order (R28). -/
def runsOf (p : BitVec 32) : List Span := runsFrom p none (List.range 32)

/-! ## Objects (R28 to R31) -/

/-- An object while a scan is worked: the prior last-scan spans it is tested with (none for an object opened in this scan), and
whether a run of this scan has extended it. -/
structure Working where
  obj      : OpenObject
  prior    : List Span
  extended : Bool
  deriving DecidableEq, Repr

def OpenObject.working (o : OpenObject) : Working := { obj := o, prior := [o.lastScanSpan], extended := false }

def Working.touchedBy (w : Working) (run : Span) : Bool := w.prior.any run.near

/-- The cells of a run (R29, R30): their number, the sum of their magnitudes, the highest of them. -/
def runMagnitudes (mags : Vector Byte 32) (run : Span) : List Nat :=
  ((List.finRange 32).filter fun i => decide (run.first ≤ i.val) && decide (i.val ≤ run.last)).map fun i => (mags[i]).toNat

def highest (xs : List Nat) : Nat := xs.foldl max 0

/-- A run counted to an object (R30); its last-scan span is given. -/
def Working.count (w : Working) (stamp : Count) (run : Span) (mags : List Nat) (cont : Bool) (lastScan : Span) : Working :=
  { w with
    extended := true
    obj := { w.obj with
      area := addUpTo 65535 w.obj.area mags.length
      magnitudeSum := addUpTo 16777215 w.obj.magnitudeSum mags.sum
      peak := max w.obj.peak (highest mags)
      laneSpan := w.obj.laneSpan.join run
      lastTouched := stamp
      lastScanSpan := lastScan
      cont := w.obj.cont || cont } }

/-- A run extends the one object it touches (R30). -/
def Working.extend (w : Working) (stamp : Count) (run : Span) (mags : List Nat) (cont : Bool) : Working :=
  w.count stamp run mags cont (if w.extended then w.obj.lastScanSpan.join run else run)

/-- Two objects merged, the first being the older (R31); spans and marks of the scan are seen to by `merge`. -/
def Working.unite (w x : Working) : Working :=
  { obj := { w.obj with
      area := addUpTo 65535 w.obj.area x.obj.area
      magnitudeSum := addUpTo 16777215 w.obj.magnitudeSum x.obj.magnitudeSum
      peak := max w.obj.peak x.obj.peak
      firstTouched := earlier w.obj.firstTouched x.obj.firstTouched
      laneSpan := w.obj.laneSpan.join x.obj.laneSpan
      cont := w.obj.cont || x.obj.cont }
    prior := w.prior ++ x.prior
    extended := w.extended || x.extended }

/-- The last-scan span of a merged object: the smallest holding the run and the last-scan spans that earlier runs of this scan
gave to the objects merged (R31). -/
def mergedSpan (run : Span) (ws : List Working) : Span :=
  (ws.filter Working.extended).foldl (fun acc w => acc.join w.obj.lastScanSpan) run

/-- A run touches the objects `oldest` and `others` and merges them (R31). -/
def mergeRun (oldest : Working) (others : List Working) (stamp : Count) (run : Span) (mags : List Nat) (cont : Bool) : Working :=
  (others.foldl Working.unite oldest).count stamp run mags cont (mergedSpan run (oldest :: others))

/-- A new object (R29, R34). -/
def newObject (stamp : Count) (run : Span) (mags : List Nat) (cont : Bool) : Working :=
  { obj := { firstTouched := stamp, lastTouched := stamp, laneSpan := run, lastScanSpan := run, area := mags.length,
             magnitudeSum := mags.sum, peak := highest mags, cont := cont }
    prior := []
    extended := true }

/-- The first object touched is replaced by `w` and the others touched leave the list (R31). -/
def replaceTouched (run : Span) (w : Working) : List Working → List Working
  | [] => []
  | x :: rest => if x.touchedBy run then w :: rest.filter (fun y => !y.touchedBy run) else x :: replaceTouched run w rest

/-- One run handled (R28 to R31): the working list after it, and whether it was ignored at a full list. -/
def handleRun (stamp : Count) (mags : Vector Byte 32) (conts : List Span) (ws : List Working) (run : Span) :
    List Working × Bool :=
  let cells := runMagnitudes mags run
  let cont := conts.any run.near
  match ws.filter fun w => w.touchedBy run with
  | [] => if Config.maxObjects ≤ ws.length then (ws, true) else (ws ++ [newObject stamp run cells cont], false)
  | [w] => (replaceTouched run (w.extend stamp run cells cont) ws, false)
  | w :: others => (replaceTouched run (mergeRun w others stamp run cells cont) ws, false)

/-- The runs of a scan handled one after another: the working list, and the number of runs ignored. -/
def handleRuns (stamp : Count) (mags : Vector Byte 32) (conts : List Span) : List Working → List Span → List Working × Nat
  | ws, [] => (ws, 0)
  | ws, run :: rest =>
    let h := handleRun stamp mags conts ws run
    let k := handleRuns stamp mags conts h.1 rest
    (k.1, (if h.2 then 1 else 0) + k.2)

/-! ## Closing (R32 to R38) -/

/-- What becomes of an object at the end of a scan (R32, R33). -/
inductive Closing where
  | open_ | ended | cut
  deriving DecidableEq, Repr

def Working.closing (w : Working) (stamp : Count) (maxLength : Nat) : Closing :=
  if !w.extended then .ended
  else if (maxLength : Int) ≤ distance w.obj.firstTouched stamp then .cut
  else .open_

/-- The hint class and strength of a mean: the first enabled band that holds it (R37). -/
def hintOf (mean : Nat) : List Band → PieceClass × Nat
  | [] => (.unknown, 0)
  | b :: rest => if b.enabled && decide (b.lo ≤ mean) && decide (mean ≤ b.hi) then (b.cls, mean) else hintOf mean rest

/-- The length of a closed object (R35). -/
def OpenObject.length (o : OpenObject) (scanPitch : Nat) : Nat := (o.lastTouched - o.firstTouched).toNat + scanPitch

/-- The sighting of a closed object (R35 to R37). -/
def State.sightingOf (s : State) (o : OpenObject) (cut : Bool) : Sighting :=
  let hint := hintOf (o.magnitudeSum / o.area) s.record.bands
  { sender := s.strapId.toNat, serial := s.scan.serial, kind := s.record.kind, sensorLine := s.record.sensorLine
    lead := o.firstTouched - BitVec.ofNat 24 s.record.scanPitch
    laneFirst := s.record.laneBase + o.laneSpan.first, laneLast := s.record.laneBase + o.laneSpan.last
    length := o.length s.record.scanPitch, area := o.area, hint := hint.1, strength := hint.2, peak := o.peak
    cut := cut, cont := o.cont }

/-- A sighting is handed to the own track unit of a BOTH station (R40). -/
def State.handOver (s : State) (x : Sighting) : State :=
  if s.record.role = .both then { s with localSightings := s.localSightings ++ [x] } else s

/-- An object closes: fines below the minimum area (R35), else a sighting that takes the serial and is offered and handed on
(R36, R38 to R40). -/
def State.closeObject (s : State) (o : OpenObject) (cut : Bool) : State :=
  if o.area < s.record.minArea then s.bump .fines
  else
    let x := s.sightingOf o cut
    ({ s with scan := { s.scan with serial := s.scan.serial + 1 } }.offerSighting x).handOver x

/-- One object at the end of a scan (R32, R33). -/
def State.closeWorking (stamp : Count) (s : State) (w : Working) : State :=
  match w.closing stamp s.record.maxSightingLength with
  | .open_ => s
  | .ended => s.closeObject w.obj false
  | .cut => s.closeObject w.obj true

/-! ## A scan processed (section 2.4) -/

/-- A scan with this stamp is processed with the held line as it stands (R22, R24, R27 to R40). -/
def State.processScan (s : State) (stamp : Count) : State :=
  let raw := s.scan.heldPresence
  let filtered := filterPresence raw s.scan.lastRaw s.scan.filtered
  let h := handleRuns stamp s.scan.heldMagnitudes s.scan.continuations (s.scan.objects.map OpenObject.working) (runsOf filtered)
  let ending := fun w : Working => w.closing stamp s.record.maxSightingLength
  let s1 := { s with scan := { s.scan with
      lastRaw := raw
      filtered := filtered
      objects := (h.1.filter fun w => ending w = .open_).map Working.obj
      continuations := (h.1.filter fun w => ending w = .cut).map fun w => w.obj.lastScanSpan } }
  let s2 := if h.2 = 0 then s1 else (s1.bumpBy .objOverflow h.2).raise .objOverflow
  h.1.foldl (State.closeWorking stamp) s2

/-- The waiting scans processed in turn: the k-th has the exchange's stamp plus k times S (R23, R24). -/
def State.processWaiting (s : State) (stamp : Count) : Nat → State
  | 0 => s
  | n + 1 =>
    let next := stamp + BitVec.ofNat 24 s.record.scanPitch
    (s.processScan next).processWaiting next n

/-- A line taken in as the held line (R22, R26). -/
def State.holdLine (s : State) (mags : Vector Byte 32) : State :=
  { s with scan := { s.scan with
      heldPresence := s.record.rawPresence mags
      heldMagnitudes := s.record.readLine mags } }

/-- A skipped scan is counted (R22, R23). -/
def State.skipScan (s : State) : State := (s.bump .scanSkip).raise .scanSkip

/-! ## Scan events (R21, R23) -/

/-- A scan event, stamped with the belt count (R11, R21, R23). -/
def State.scanEvent (s : State) : State :=
  match s.scan.link with
  | .idle =>
    { s with scan := { s.scan with
        link := .exchange s.belt.count (s.belt.timebase + BitVec.ofNat 32 (s.record.laneCount + 2)) false } }
  | .exchange _ _ _ =>
    if Config.maxWaiting ≤ s.scan.waiting then s.skipScan
    else { s with scan := { s.scan with waiting := s.scan.waiting + 1 } }.skipScan

/-! ## The command -/

/-- The own scan of an exchange: none for a void one (R25); the line taken in when it is ready, else a skipped scan (R22). -/
def State.ownScan (s : State) (stamp : Count) (void : Bool) (status : Byte) (mags : Vector Byte 32) : State :=
  if void then s
  else if status.toNat = Config.readyStatus then (s.holdLine mags).processScan stamp
  else s.skipScan.processScan stamp

/-- EXCHANGE_COMPLETE (R21 to R25): at the exchange's end its scan is processed, the link becomes IDLE, and the waiting scans are
processed. -/
def execExchangeComplete (status : Byte) (magnitudes : Vector Byte 32) (s : State) : Host.Outcome State Fault Refusal :=
  s.act fun s => match s.scan.link with
    | .idle => s
    | .exchange stamp ends void =>
      if atOrBefore ends s.belt.timebase then
        let s1 := s.ownScan stamp void status magnitudes
        let n := s.scan.waiting
        { s1 with scan := { s1.scan with link := .idle, waiting := 0 } }.processWaiting stamp n
      else s

end Sys2Proof.Machine
end

