-- ==== Sys2Proof/Machine/Valves.lean ====
section
/-! DEFINITION. The due times of tracks in flight and of valves (chapters 8 and 9): the meanings of T_OPEN_DUE,
COASTING_T_OPEN, T_CLOSE_DUE, CLOSE_AT_DUE and RECOVER_UNTIL_DUE. -/

namespace Sys2Proof.Machine

/-! ## The group of a t_open (R155) -/

/-- A LAUNCHED track whose t_open has fallen due (R9, R145). -/
def State.openDue (s : State) (t : Track) : Bool :=
  match t.state, t.flight with
  | .launched, some f => atOrBefore f.tOpen s.belt.timebase
  | _, _ => false

/-- The t_open of a track, as a distance from the current timebase. -/
def State.openDistance (s : State) (t : Track) : Int := (t.flight.map fun f => distance s.belt.timebase f.tOpen).getD 0

/-- `a` is worked before `b`: by the earlier t_open; within one group by the higher class rank, then the earlier A_lead, then
the older track (R155). -/
def State.servedBefore (s : State) (a b : Track) : Bool :=
  if s.openDistance a = s.openDistance b then
    if s.record.classRank a.cls = s.record.classRank b.cls then standsBefore s.belt.count a b
    else decide (s.record.classRank b.cls < s.record.classRank a.cls)
  else decide (s.openDistance a < s.openDistance b)

/-- A track put into its place in the order of service. -/
def State.placeServed (s : State) (t : Track) : List Track → List Track
  | [] => [t]
  | u :: rest => if s.servedBefore t u then t :: u :: rest else u :: s.placeServed t rest

/-- The tracks of the group, in the order in which they are worked (R155). -/
def State.openGroup (s : State) : List Nat :=
  ((s.tracks.filter s.openDue).foldl (fun acc t => s.placeServed t acc) []).map Track.made

/-! ## The commands -/

/-- T_OPEN_DUE (R145, R155): the requests of the group are worked one after another, each whole. -/
def execTOpenDue (s : State) : Host.Outcome State Fault Refusal :=
  s.act fun s => s.openGroup.foldl State.request s

/-- COASTING_T_OPEN (R146): a COASTING track whose t_open has fallen due ends PASSED. -/
def execCoastingTOpen (track : Nat) (s : State) : Host.Outcome State Fault Refusal :=
  s.act fun s => match s.findTrack track with
    | none => s
    | some t => match t.state, t.flight with
      | .coasting, some f => if atOrBefore f.tOpen s.belt.timebase then s.endTrack t .passed else s
      | _, _ => s

/-- T_CLOSE_DUE (R146, R158): a FIRING track whose t_close has fallen due ends FIRED; no valve record changes. -/
def execTCloseDue (track : Nat) (s : State) : Host.Outcome State Fault Refusal :=
  s.act fun s => s.settleTrack track

/-- CLOSE_AT_DUE (R156): an OPEN valve whose close-at has fallen due goes to RECOVER. -/
def execCloseAtDue (valve : Fin 32) (s : State) : Host.Outcome State Fault Refusal :=
  s.act fun s => { s with valves := s.valves.set valve (settleValve s.belt.timebase s.record.recovery s.valves[valve]) }

/-- A resting valve whose recover-until has fallen due returns to CLOSED (R157). -/
def restoreValve (now : Time) (v : Valve) : Valve :=
  match v with
  | .resting t => if atOrBefore t now then .closed else .resting t
  | .closed => .closed
  | .opened openedAt closeAt => .opened openedAt closeAt

/-- RECOVER_UNTIL_DUE (R157). -/
def execRecoverUntilDue (valve : Fin 32) (s : State) : Host.Outcome State Fault Refusal :=
  s.act fun s => { s with valves := s.valves.set valve (restoreValve s.belt.timebase s.valves[valve]) }

end Sys2Proof.Machine
end

