-- ==== Sys2Proof/Machine/Belts.lean ====
section
/-! DEFINITION. The belt counter (chapter 1): counted edges, belt-unit advances, scan phase, speed ring and stall, and the
meanings of ENCODER_EDGE and STALL. -/

namespace Sys2Proof.Machine

/-- An edge matches the counted edge (R1). -/
def CountedEdge.counts (e : CountedEdge) (rising : Bool) : Bool :=
  match e with
  | .rising => rising
  | .falling => !rising
  | .both => true

/-- The stamp joins the ring, the oldest leaving a full ring (R13). -/
def pushStamp (ring : List Time) (stamp : Time) : List Time := (ring ++ [stamp]).drop (ring.length + 1 - Config.ringSize)

/-- The speed measure formed before the stamp joins: Δ16 when the ring holds 16 stamps, else NONE (R14). -/
def measureAt (ring : List Time) (stamp : Time) : Option Time :=
  match ring with
  | [] => none
  | oldest :: _ => if ring.length = Config.ringSize then some (stamp - oldest) else none

/-- The belt counter's own part of a belt-unit advance (R4, R13, R14, R15, R16). -/
def Belt.advance (b : Belt) (stamp : Time) : Belt :=
  { b with
    count := b.count + 1
    measure := measureAt b.ring stamp
    ring := pushStamp b.ring stamp
    motion := .moving (stamp + BitVec.ofNat 32 Config.stallTime) }

/-- The scan phase counter counts: a sensing station in RUN or HELD (R11). -/
def State.scans (s : State) : Bool := s.operating && s.record.role.senses

/-- The scan phase counter at an advance, and the scan event it raises (R11). -/
def State.countPhase (s : State) : State :=
  if s.scans then
    if s.record.scanPitch ≤ s.belt.scanPhase + 1 then { s with belt := { s.belt with scanPhase := 0 } }.scanEvent
    else { s with belt := { s.belt with scanPhase := s.belt.scanPhase + 1 } }
  else s

/-- One belt-unit advance (R4): the belt counter, then the scan phase counter, then the track unit. -/
def State.advance (s : State) (stamp : Time) : State :=
  ({ s with belt := s.belt.advance stamp }.countPhase).beltEvents stamp

/-- The state a command answers; the commands below always answer one. -/
def State.through (s : State) (outcome : Host.Outcome State Fault Refusal) : State :=
  match outcome with
  | .next t => t
  | .fault _ => s
  | .refused _ => s

/-- What falls between two advances takes its effect, reading the count as it stands between them (R10, R20). -/
def State.meet (s : State) (e : Between) : State :=
  match e with
  | .portValue => s.formValue
  | .exchangeComplete status magnitudes => s.through (execExchangeComplete status magnitudes s)
  | .localSightingTaken => s.through (execLocalSightingTaken s)
  | .lineIdle startEdge => s.through (execLineIdle s startEdge)
  | .startEdgeLatch => s.through (execStartEdgeLatch s)
  | .beaconDue => s.through (execBeaconDue s)
  | .monitorSample levels => s.through (execMonitorSample levels s)
  | .sightTaken => s.through (execSightTaken s)
  | .claimTaken => s.through (execClaimTaken s)
  | .firedTaken => s.through (execFiredTaken s)
  | .missedTaken => s.through (execMissedTaken s)
  | .tOpenDue => s.through (execTOpenDue s)
  | .start => s.through (execStart s)
  | .haltAssert => s.through (execHaltAssert s)
  | .haltRelease => s.through (execHaltRelease s)

/-- The advances of one edge, all with its stamp, in count order (R4), with what falls between them (R10). -/
def State.advances (s : State) (stamp : Time) : Nat → List (List Between) → State
  | 0, _ => s
  | n + 1, [] => (s.advance stamp).advances stamp n []
  | n + 1, gap :: between =>
    let s1 := s.advance stamp
    (if n = 0 then s1 else gap.foldl State.meet s1).advances stamp n between

/-- The belt units an edge completes: the number of times P is taken off the accumulator after it gained 1000 (R3). -/
def State.edgeUnits (s : State) : Nat := (s.belt.accumulator + 1000) / s.record.pitch

/-- A forward counted edge (R3). -/
def State.forwardEdge (s : State) (between : List (List Between)) : State :=
  { s with belt := { s.belt with accumulator := (s.belt.accumulator + 1000) % s.record.pitch } }.advances
    s.belt.timebase s.edgeUnits between

/-- A reverse counted edge (R2). -/
def State.reverseEdge (s : State) : State := (s.bump .reverse).raise .reverse

/-- ENCODER_EDGE (R1 to R4). -/
def execEncoderEdge (rising forward : Bool) (s : State) (between : List (List Between) := []) :
    Host.Outcome State Fault Refusal :=
  s.act fun s =>
    if s.record.countedEdge.counts rising then
      if forward then s.forwardEdge between else s.reverseEdge
    else s

/-- A stall (R15). -/
def State.enterStall (s : State) : State :=
  (({ s with belt := { s.belt with ring := [], measure := none, motion := .stopped } }).bump .stall).raise .stall

/-- STALL (R15): in MOVING, when the stall due time has fallen due. -/
def execStall (s : State) : Host.Outcome State Fault Refusal :=
  s.act fun s => match s.belt.motion with
    | .stopped => s
    | .moving due => if atOrBefore due s.belt.timebase then s.enterStall else s

end Sys2Proof.Machine
end

