-- ==== Sys2Proof/Machine/Receive.lean ====
section
/-! DEFINITION. The link receiver (section 3.6) and what the peer unit takes from it (R69, R71, R73): the meaning of
FRAME_RECEIVED. -/

namespace Sys2Proof.Machine

/-! ## Peer table (R63, R69) -/

/-- The gap of a frame: its sequence number less the entry's last less one, modulo 256; none counted unless the entry was LIVE
(R63). -/
def Peer.gap (p : Peer) (sequence : Byte) : Nat :=
  match p.state with
  | .live => (sequence - p.lastSequence - 1).toNat
  | .unknown | .lost => 0

/-- The entry after an accepted frame: LIVE, heard now, its loss due time four beacon intervals on (R63, R69). -/
def Peer.hear (p : Peer) (sequence : Byte) (tSof : Time) (beaconInterval : Nat) : Peer :=
  { p with state := .live, lastSequence := sequence, lastHeard := tSof
           lossDue := some (tSof + BitVec.ofNat 32 (4 * beaconInterval)) }

/-- A gap counted (R63). -/
def State.countGap (s : State) (g : Nat) : State := if g = 0 then s else (s.bumpBy .gaps g).raise .gaps

def State.hearPeer (s : State) (id : Fin 24) (sequence : Byte) : State :=
  (s.countGap ((s.peers[id]).gap sequence)).updatePeer id fun p => p.hear sequence s.line.tSof s.record.beaconInterval

/-! ## HALT and STATUS (R71, R73) -/

/-- A peer's halt flag set or cleared, its id put into or taken from the halt set, and the station state set again (R71, R73, R77). -/
def State.peerHalt (s : State) (id : Fin 24) (on : Bool) : State :=
  let s1 := s.updatePeer id fun p => { p with haltFlag := on }
  (if on then s1.addHalt id.val else s1.removeHalt id.val).settleMode

/-- A STATUS taken (R71). -/
def State.takeStatus (s : State) (id : Fin 24) (b : StatusBody) : State :=
  (s.updatePeer id fun p => { p with about := some b.about }).peerHalt id b.haltFlag

/-! ## Inbox and copy FIFO (R64, R66) -/

/-- A frame offered to the inbox (R64). -/
def State.offerInbox (s : State) (e : InboxEntry) : State :=
  if s.operating && s.record.role.ejects then
    if Config.maxInbox ≤ s.inbox.length then (s.bump .rxOverrun).raise .rxOverrun
    else { s with inbox := s.inbox ++ [e] }
  else s

/-- An accepted frame routed by its kind (R64). -/
def State.route (s : State) (id : Fin 24) (b : Body) : State :=
  match b with
  | .halt on _ => s.peerHalt id on
  | .status x => s.takeStatus id x
  | .fired _ | .missed _ _ | .claim _ | .sight _ =>
    s.offerInbox { sender := id.val, body := b, cSof := s.line.cSof, tSof := s.line.tSof }

/-- An accepted frame offered to the copy FIFO (R66). -/
def State.offerCopy (s : State) (f : WireFrame) (k : FrameKind) : State :=
  if s.record.copies k then
    if Config.maxCopies ≤ s.copies.length then s.bump .copyLoss
    else { s with copies := s.copies ++ [{ kind := k, sender := f.sender.toNat, sequence := f.sequence,
                                           payload := WireFrame.payloadRead f k, cSof := s.line.cSof, tSof := s.line.tSof }] }
  else s

/-! ## The decision (R60 to R64) -/

/-- An accepted frame of another station: the peer table, then the routing, then the copy FIFO (R63, R64, R66). -/
def State.takeFrame (s : State) (id : Fin 24) (f : WireFrame) (b : Body) : State :=
  ((s.hearPeer id f.sequence).route id b).offerCopy f b.kind

/-- An accepted frame: the station's own is only copied (R61); one that carries the own id shows a strap fault (R62). -/
def State.acceptedFrame (s : State) (own : Bool) (f : WireFrame) (b : Body) : State :=
  if own then s.offerCopy f b.kind
  else if f.sender = s.strapId then (s.bump .dupId).raise .dupId
  else if h : f.sender.toNat < 24 then s.takeFrame ⟨f.sender.toNat, h⟩ f b else s

/-- The frame being received has ended: the station is receiving no frame, and the line is not yet idle (R45). -/
def State.endFrame (s : State) : State := { s with line := { s.line with status := .waiting } }

/-- FRAME_RECEIVED (R59, R60): the frame being received ends, and is discarded or accepted; one that the own transmitter has broken
is discarded, its CRC or its end field being spoilt (R56). While the own attempt is in progress, or with no frame being received, no
frame ends. -/
def execFrameReceived (f : WireFrame) (s : State) : Host.Outcome State Fault Refusal :=
  s.act fun s => match s.line.status, s.tx.attempt with
    | .receiving own, none =>
      match acceptFrame f with
      | none => s.endFrame.bump .rxCrc
      | some b => s.endFrame.acceptedFrame own f b
    | .broken, none => s.endFrame.bump .rxCrc
    | .broken, some _ | .receiving _, some _ | .waiting, _ | .idle, _ => s

end Sys2Proof.Machine
end

