-- ==== Sys2Proof/Machine/Dispatch.lean ====
section
/-! DEFINITION. What each command does to everything but the queue: one arm for each row of spec/opcode_table.json. -/

namespace Sys2Proof.Machine

def exec (i : Instr) (s : State) : Host.Outcome State Fault Refusal :=
  match i with
  | .encoderEdge rising forward between => Sys2Proof.Machine.execEncoderEdge rising forward s between
  | .stall => Sys2Proof.Machine.execStall s
  | .exchangeComplete status magnitudes => Sys2Proof.Machine.execExchangeComplete status magnitudes s
  | .localSightingTaken => Sys2Proof.Machine.execLocalSightingTaken s
  | .lineIdle startEdge => Sys2Proof.Machine.execLineIdle s startEdge
  | .startEdgeLatch => Sys2Proof.Machine.execStartEdgeLatch s
  | .arbitrationLost bit => Sys2Proof.Machine.execArbitrationLost bit s
  | .bitError => Sys2Proof.Machine.execBitError s
  | .attemptComplete => Sys2Proof.Machine.execAttemptComplete s
  | .beaconDue => Sys2Proof.Machine.execBeaconDue s
  | .frameReceived frame => Sys2Proof.Machine.execFrameReceived frame s
  | .peerLossDue id => Sys2Proof.Machine.execPeerLossDue id s
  | .monitorSample levels => Sys2Proof.Machine.execMonitorSample levels s
  | .sightTaken => Sys2Proof.Machine.execSightTaken s
  | .claimTaken => Sys2Proof.Machine.execClaimTaken s
  | .firedTaken => Sys2Proof.Machine.execFiredTaken s
  | .missedTaken => Sys2Proof.Machine.execMissedTaken s
  | .tOpenDue => Sys2Proof.Machine.execTOpenDue s
  | .coastingTOpen track => Sys2Proof.Machine.execCoastingTOpen track s
  | .tCloseDue track => Sys2Proof.Machine.execTCloseDue track s
  | .closeAtDue valve => Sys2Proof.Machine.execCloseAtDue valve s
  | .recoverUntilDue valve => Sys2Proof.Machine.execRecoverUntilDue valve s
  | .readIdent => Sys2Proof.Machine.execReadIdent s
  | .writeConfig offset count data => Sys2Proof.Machine.execWriteConfig offset count data s
  | .readConfig => Sys2Proof.Machine.execReadConfig s
  | .start => Sys2Proof.Machine.execStart s
  | .restart => Sys2Proof.Machine.execRestart s
  | .readState waits => Sys2Proof.Machine.execReadState s waits
  | .readFlags waits => Sys2Proof.Machine.execReadFlags s waits
  | .clearFlags mask => Sys2Proof.Machine.execClearFlags mask s
  | .readTallies waits => Sys2Proof.Machine.execReadTallies s waits
  | .clearTallies => Sys2Proof.Machine.execClearTallies s
  | .haltAssert => Sys2Proof.Machine.execHaltAssert s
  | .haltRelease => Sys2Proof.Machine.execHaltRelease s
  | .clearHalt id => Sys2Proof.Machine.execClearHalt id s
  | .readPeers waits => Sys2Proof.Machine.execReadPeers s waits
  | .readTrace => Sys2Proof.Machine.execReadTrace s
  | .readLatest => Sys2Proof.Machine.execReadLatest s
  | .readCopy => Sys2Proof.Machine.execReadCopy s
  | .unknownCommand code => Sys2Proof.Machine.execUnknownCommand code s
  | .transactionAbandon => Sys2Proof.Machine.execTransactionAbandon s
  | .resetAssert => Sys2Proof.Machine.execResetAssert s
  | .coldStart straps => Sys2Proof.Machine.execColdStart straps s

end Sys2Proof.Machine
end

