-- ==== Sys2Proof/Safety.lean ====
section
/-! DEFINITION. What holds in every state the part can be in, in the terms the claims use: capacities, the track table, the line
hold, SETUP at rest, halt set and own entry, monitor conditions, belt counter, record, valve bank and transmitter. -/

namespace Sys2Proof.Machine

/-! ## Capacities (R13, R23, R29, R34, R39, R51, R57, R64, R66, R87, R179) -/

/-- Every list and counter of the part stays within the capacity its rule gives. -/
abbrev State.withinCapacity (s : State) : Prop :=
  s.belt.ring.length ≤ 16 ∧ s.scan.waiting ≤ 255 ∧ s.scan.objects.length ≤ 16 ∧ s.scan.continuations.length ≤ 16
    ∧ s.tx.urgent.length ≤ 8 ∧ s.tx.sightings.length ≤ 16 ∧ s.tx.consecutive ≤ 16
    ∧ s.inbox.length ≤ 16 ∧ s.copies.length ≤ 8 ∧ s.tracks.length ≤ 64 ∧ s.trace.length ≤ 32

/-! ## Track table (R87, R105, R117, R142, R144, Table 5-1) -/

/-- A track holds what its state gives it: a flight part in flight alone, a valve set while FIRING alone, a pending mark and no
class and no flag while COLLECTING, TRIMMED in flight alone, DOUBLE while FIRING alone, SHORT never in the table. -/
abbrev Track.fitsState (t : Track) : Prop :=
  t.flight.isSome = t.inFlight ∧ t.valveSet.isSome = decide (t.state = .firing)
    ∧ (t.mark.isSome → t.state = .collecting)
    ∧ (t.state = .collecting → t.cls = .unknown ∧ t.degraded = false ∧ t.oversize = false)
    ∧ (t.trimmed → t.inFlight) ∧ (t.double → t.state = .firing) ∧ t.short = false

/-- The table names each track once, by a number below the next one, each track fits its state, and at most 24 are in flight. -/
abbrev State.tableSound (s : State) : Prop :=
  (s.tracks.map Track.made).Nodup ∧ (∀ t ∈ s.tracks, t.made < s.nextMade ∧ t.fitsState) ∧ s.flights ≤ 24

/-- The table stands in order: by the distance from the current count to A_lead, then by the order of making (R87). -/
abbrev State.tableOrdered (s : State) : Prop :=
  s.tracks.Pairwise fun u v => distance s.belt.count u.aLead < distance s.belt.count v.aLead
    ∨ (u.aLead = v.aLead ∧ u.made < v.made)

/-! ## Line hold (R78, R79, R88, R161, R162, R165) -/

/-- Outside RUN no valve is open; in HELD no track is FIRING; in SETUP there is no track. -/
abbrev State.lineHeld (s : State) : Prop :=
  (s.mode ≠ .run → s.openCount = 0) ∧ (s.mode = .held → ∀ t ∈ s.tracks, t.state ≠ .firing)
    ∧ (s.mode = .setup → s.tracks = [])

/-! ## SETUP (R41, R58, R65, R88, R173, R182) -/

/-- An exchange still on the wire is one that a warm restart made void (R25). -/
def SampleLink.atRest : SampleLink → Bool
  | .idle => true
  | .exchange _ _ void => void

/-- In SETUP nothing stands in the track table, the inbox, the transmit queues or the scan unit, and the beacon is stopped. -/
abbrev State.setupAtRest (s : State) : Prop :=
  s.mode = .setup →
    s.tracks = [] ∧ s.inbox = [] ∧ s.localSightings = [] ∧ s.tx.urgent = [] ∧ s.tx.sightings = [] ∧ s.tx.beacon = none
      ∧ s.tx.beaconDue = none ∧ s.scan.objects = [] ∧ s.scan.continuations = [] ∧ s.scan.waiting = 0
      ∧ s.scan.heldPresence = 0 ∧ s.scan.lastRaw = 0 ∧ s.scan.filtered = 0 ∧ s.scan.link.atRest

/-! ## Halt set and own entry (R68, R72, R77) -/

/-- RUN and HELD follow the halt set; the own id stands in it exactly while the own halt is asserted; only a station with an id
operates. -/
abbrev State.haltSound (s : State) : Prop :=
  (s.mode = .run → s.haltSet = 0) ∧ (s.mode = .held → s.haltSet ≠ 0)
    ∧ (s.strapId.toNat < 24 → s.inHaltSet s.strapId.toNat = s.ownHalt) ∧ (s.operating → s.strapId.toNat < 24)

/-- The own entry: cold in SETUP; from START on LIVE, described from the record, its halt flag the own halt, with no loss due
time. -/
abbrev State.ownEntrySound (s : State) : Prop :=
  ∀ i : Fin 24, i.val = s.strapId.toNat →
    s.peers[i] = if s.operating then Peer.own s.record s.ownHalt else Peer.cold

/-! ## Monitor unit (R81) -/

/-- The four conditions are those the accepted levels give under the record in force. -/
abbrev State.conditionsSound (s : State) : Prop :=
  s.monitor.airLow = s.record.anyInput s.monitor.accepted .airOk false
    ∧ s.monitor.doorOpen = s.record.anyInput s.monitor.accepted .doorClosed false
    ∧ s.monitor.chuteNotReady = s.record.anyInput s.monitor.accepted .chuteReady false
    ∧ s.monitor.stopRequested = s.record.anyInput s.monitor.accepted .stopRequest true

/-! ## Belt counter (R3, R12, R13, R15, R17) -/

/-- MOVING holds the newest stamp plus 10,000; STOPPED holds an empty ring and no measure. -/
def Belt.motionSound (b : Belt) : Bool :=
  match b.motion with
  | .moving due => decide (b.ring.getLast?.map (fun stamp => stamp + 10000) = some due)
  | .stopped => decide (b.ring = []) && decide (b.measure = none)

/-- The accumulator lies below P, the scan phase in operation below S, and the stall state fits the ring. -/
abbrev State.beltSound (s : State) : Prop :=
  s.belt.accumulator < s.record.pitch ∧ (s.operating → s.belt.scanPhase < s.record.scanPitch) ∧ s.belt.motionSound

/-! ## Valve bank (R143, R150, R154, R165) -/

/-- An open valve of the window has a close-at at most the maximum open time after its opening. -/
def Valve.bounded (v : Valve) (inWindow : Bool) (maxOpen : Nat) : Bool :=
  match v with
  | .closed => true
  | .resting _ => true
  | .opened openedAt closeAt => inWindow && decide ((closeAt - openedAt).toNat ≤ maxOpen)

/-- No valve is open outside RUN, an open valve lies in the window and closes in time, and the open count is within B. -/
abbrev State.valvesSound (s : State) : Prop :=
  (s.mode ≠ .run → s.openCount = 0) ∧ (s.mode = .setup → s.tracks = [])
    ∧ (∀ i : Fin 32, (s.valves[i]).bounded (decide (i.val < s.record.laneCount)) s.record.maxOpen)
    ∧ s.openCount ≤ s.record.budget ∧ s.record.budgetLow ≤ s.record.budget

/-! ## Link transmitter (R51, R52, R56, R57, section 3.3) -/

/-- The entry of an attempt stands at its place, unless the attempt has lost it. -/
def Transmitter.entryStands (t : Transmitter) (a : Attempt) : Bool :=
  match a.fate, a.source with
  | .present, .urgent => !t.urgent.isEmpty
  | .present, .sighting => !t.sightings.isEmpty
  | .present, .beacon => t.beacon.isSome
  | .replaced, source => decide (source = .beacon) && t.beacon.isSome
  | .gone, _ => true

/-- An attempt is a frame on the wire, not yet past arbitration, whose entry stands; error counts are 0..2; MUTE is reached at 16
errors running, and in MUTE nothing is queued or sent. -/
abbrev State.transmitterSound (s : State) : Prop :=
  (∀ a, s.tx.attempt = some a → s.line.status = .receiving false ∧ s.tx.entryStands a)
    ∧ (∀ e ∈ s.tx.urgent, e.errors ≤ 2) ∧ (∀ e ∈ s.tx.sightings, e.errors ≤ 2) ∧ (∀ n, s.tx.beacon = some n → n ≤ 2)
    ∧ s.tx.consecutive ≤ 16 ∧ s.tx.mute = decide (s.tx.consecutive = 16)
    ∧ (s.tx.mute → s.tx.urgent = [] ∧ s.tx.sightings = [] ∧ s.tx.beacon = none ∧ s.tx.attempt = none)

/-! ## What a change leaves alone -/

/-- The parts of State, one for each field. -/
inductive Part where
  | inReset | strapId | mode | record | belt | scan | localSightings | tx | line | inbox | copies | peers | haltSet
  | operatorHalt | monitor | tracks | nextMade | valves | flags | tallies | trace | latest | response | outgoing
  | freeCount | pending
  deriving DecidableEq, Repr

/-- A part is the same in both states. -/
def Part.same (p : Part) (s t : State) : Prop :=
  match p with
  | .inReset => t.inReset = s.inReset
  | .strapId => t.strapId = s.strapId
  | .mode => t.mode = s.mode
  | .record => t.record = s.record
  | .belt => t.belt = s.belt
  | .scan => t.scan = s.scan
  | .localSightings => t.localSightings = s.localSightings
  | .tx => t.tx = s.tx
  | .line => t.line = s.line
  | .inbox => t.inbox = s.inbox
  | .copies => t.copies = s.copies
  | .peers => t.peers = s.peers
  | .haltSet => t.haltSet = s.haltSet
  | .operatorHalt => t.operatorHalt = s.operatorHalt
  | .monitor => t.monitor = s.monitor
  | .tracks => t.tracks = s.tracks
  | .nextMade => t.nextMade = s.nextMade
  | .valves => t.valves = s.valves
  | .flags => t.flags = s.flags
  | .tallies => t.tallies = s.tallies
  | .trace => t.trace = s.trace
  | .latest => t.latest = s.latest
  | .response => t.response = s.response
  | .outgoing => t.outgoing = s.outgoing
  | .freeCount => t.freeCount = s.freeCount
  | .pending => t.pending = s.pending

/-- From `s` to `t` nothing changes but, perhaps, the parts listed. -/
def State.changesOnly (s t : State) (parts : List Part) : Prop := ∀ p : Part, p ∉ parts → p.same s t

/-! ## Commands and frames -/

/-- The two commands of a cold start (R175). -/
def isReset : Instr → Bool
  | .resetAssert => true
  | .coldStart _ => true
  | .encoderEdge _ _ _ | .stall | .exchangeComplete _ _ | .localSightingTaken | .lineIdle _ | .startEdgeLatch
  | .arbitrationLost _ | .bitError | .attemptComplete | .beaconDue | .frameReceived _ | .peerLossDue _ | .monitorSample _
  | .sightTaken | .claimTaken | .firedTaken | .missedTaken | .tOpenDue | .coastingTOpen _ | .tCloseDue _
  | .closeAtDue _ | .recoverUntilDue _ | .readIdent | .writeConfig _ _ _ | .readConfig | .start | .restart | .readState _
  | .readFlags _ | .clearFlags _ | .readTallies _ | .clearTallies | .haltAssert | .haltRelease | .clearHalt _
  | .readPeers _ | .readTrace | .readLatest | .readCopy | .unknownCommand _ | .transactionAbandon => false

/-- Lanes on the belt, in order (Table 3-1). -/
abbrev lanesInRange (first last : Nat) : Prop := first ≤ last ∧ last ≤ 191

/-- The ranges of FIRED, MISSED and CLAIM (Table 3-1). -/
abbrev OutcomeBody.inRange (o : OutcomeBody) : Prop :=
  o.anchorId ≤ 23 ∧ o.curtain ≤ 3 ∧ 1 ≤ o.length ∧ o.length ≤ 65535 ∧ lanesInRange o.laneFirst o.laneLast

/-- The ranges of SIGHT (Table 3-1). -/
abbrev SightBody.inRange (b : SightBody) : Prop :=
  b.age ≤ 4095 ∧ b.sensorLine ≤ 65535 ∧ lanesInRange b.laneFirst b.laneLast ∧ 1 ≤ b.length ∧ b.length ≤ 65535
    ∧ 1 ≤ b.area ∧ b.area ≤ 65535 ∧ b.strength ≤ 255 ∧ b.peak ≤ 255

/-- The ranges of STATUS (Table 3-1). -/
abbrev StatusBody.inRange (b : StatusBody) : Prop :=
  b.about.curtain ≤ 3 ∧ b.about.laneBase ≤ 191 ∧ 1 ≤ b.about.laneCount ∧ b.about.laneCount ≤ 32
    ∧ b.about.laneBase + b.about.laneCount ≤ 192 ∧ b.about.sensorLine ≤ 65535

/-- Every field lies in the range of Table 3-1. -/
def Body.inRange (b : Body) : Prop :=
  match b with
  | .halt _ _ => True
  | .fired o => o.inRange
  | .missed _ o => o.inRange
  | .claim o => o.inRange
  | .sight x => x.inRange
  | .status x => x.inRange

/-- A tally has advanced by `n`, stopping at its limit (R178). -/
def State.counts (s t : State) (x : Tally) (n : Nat) : Prop :=
  (t.tally x).toNat = min 4294967295 ((s.tally x).toNat + n)

/-- No tally but, perhaps, those listed has changed; no flag but, perhaps, those listed. -/
def State.talliesOnly (s t : State) (xs : List Tally) : Prop := ∀ x, x ∉ xs → t.tally x = s.tally x
def State.flagsOnly (s t : State) (fs : List Flag) : Prop := ∀ f, f ∉ fs → t.flagSet f = s.flagSet f

/-- The transmit queues and the beacon slot after an error of an attempt, and the number of entries dropped with TX-ERR (R56): the
entry at its place is charged, and dropped at its third error; a STATUS replaced (R52) or an entry gone (R58) is not charged. -/
def Transmitter.charged (t : Transmitter) (a : Attempt) (urgent : List UrgentEntry) (sightings : List SightingEntry)
    (beacon : Option Nat) (dropped : Nat) : Prop :=
  (a.fate ≠ .present → urgent = t.urgent ∧ sightings = t.sightings ∧ beacon = t.beacon ∧ dropped = 0)
    ∧ (a.fate = .present →
        (a.source = .urgent → sightings = t.sightings ∧ beacon = t.beacon ∧ ∀ e rest, t.urgent = e :: rest →
          (e.errors < 2 → urgent = { e with errors := e.errors + 1 } :: rest ∧ dropped = 0)
          ∧ (2 ≤ e.errors → urgent = rest ∧ dropped = 1))
        ∧ (a.source = .sighting → urgent = t.urgent ∧ beacon = t.beacon ∧ ∀ e rest, t.sightings = e :: rest →
          (e.errors < 2 → sightings = { e with errors := e.errors + 1 } :: rest ∧ dropped = 0)
          ∧ (2 ≤ e.errors → sightings = rest ∧ dropped = 1))
        ∧ (a.source = .beacon → urgent = t.urgent ∧ sightings = t.sightings ∧ ∀ n, t.beacon = some n →
          (n < 2 → beacon = some (n + 1) ∧ dropped = 0) ∧ (2 ≤ n → beacon = none ∧ dropped = 1)))

/-- The copy FIFO after an accepted frame of this kind (R66). -/
def State.copied (s t : State) (f : WireFrame) (k : FrameKind) : Prop :=
  (s.record.copies k = true → s.copies.length < 8 →
      t.copies = s.copies ++ [{ kind := k, sender := f.sender.toNat, sequence := f.sequence
                                payload := WireFrame.payloadRead f k, cSof := s.line.cSof, tSof := s.line.tSof }]
        ∧ t.tally .copyLoss = s.tally .copyLoss)
    ∧ (s.record.copies k = true → 8 ≤ s.copies.length → t.copies = s.copies ∧ s.counts t .copyLoss 1)
    ∧ (s.record.copies k = false → t.copies = s.copies ∧ t.tally .copyLoss = s.tally .copyLoss)

/-- The gap tally and flag after an accepted frame with this sequence number, the sender's entry having been `p` (R63): a gap counts
only when the entry was LIVE. -/
def State.countsGap (s t : State) (p : Peer) (sequence : Byte) : Prop :=
  let gap := if p.state = .live then (sequence - p.lastSequence - 1).toNat else 0
  s.counts t .gaps gap ∧ t.flagSet .gaps = (s.flagSet .gaps || decide (gap ≠ 0))

/-- The trace entry of a FIRING track that the line hold ends (R78, R103). -/
def Track.shortEntry (u : Track) : TraceEntry :=
  { anchorId := u.anchorId, anchorSerial := u.anchorSerial, cls := u.cls, outcome := .fired, degraded := u.degraded
    oversize := u.oversize, trimmed := u.trimmed, double := u.double, short := true, aLead := u.aLead
    laneFirst := u.laneFirst, laneLast := u.laneLast, tOpen := u.flight.map Flight.tOpen }

/-- The field holds what a write has brought it to, `raw` being the record's bytes after the write and before the clamp (R170). -/
def Record.brought (r : Record) (f : Field) (raw : Nat → Byte) : Prop :=
  match f.clamp with
  | .unsigned lo hi =>
    (f.size = 1 → r.byteAt f.offset = max lo (min hi (raw f.offset).toNat))
      ∧ (f.size = 2 → r.wordAt f.offset = max lo (min hi ((raw f.offset).toNat * 256 + (raw (f.offset + 1)).toNat)))
  | .signed lo hi => (r.byte f.offset).toInt = max lo (min hi (raw f.offset).toInt)
  | .masked bits => r.byte f.offset = raw f.offset &&& bits
  | .marked hi => r.byte f.offset = (raw f.offset &&& 128) ||| BitVec.ofNat 8 (min hi ((raw f.offset).toNat % 8))

/-- The newest trace entry, which is also the latest slot's, with NEW set (R103, R179, R180). -/
def State.wroteTrace (s t : State) (x : TraceEntry) : Prop :=
  t.trace = (s.trace ++ [x]).drop (s.trace.length + 1 - 32) ∧ t.latest = some { entry := x, isNew := true }

/-! ## The port's responses, byte by byte (Tables 10-6 to 10-9)

The bits that the tables do not name are 0: DESIGN CHOICE (log 30). -/

/-- A response of these bytes, nothing of it left to be formed. -/
def State.answered (s : State) (bytes : List Byte) : State := { s with response := bytes, outgoing := none }

/-- A number in `n` bytes, high byte first (R166). -/
def bigEndian (n v : Nat) : List Byte := (List.range n).map fun k => BitVec.ofNat 8 (v / 256 ^ (n - 1 - k))

/-- A byte with these marks, bit 0 first. -/
def markByte (marks : Fin 8 → Bool) : Byte := BitVec.ofFnLE marks

/-- Table 10-6. -/
def TraceEntry.bytes (x : TraceEntry) : List Byte :=
  let end_ : Nat × Nat := match x.outcome with
    | .fired => (0, 0)
    | .missed reason => (1, reason.code)
    | .passed => (2, 0)
    | .taken => (3, 0)
  [BitVec.ofNat 8 x.anchorId, x.anchorSerial, BitVec.ofNat 8 (end_.1 * 64 + x.cls.code * 8 + end_.2),
   markByte ![x.short, x.double, x.trimmed, x.oversize, x.degraded, false, false, x.tOpen.isSome]]
    ++ bigEndian 3 x.aLead.toNat ++ [BitVec.ofNat 8 x.laneFirst, BitVec.ofNat 8 x.laneLast]
    ++ bigEndian 4 (match x.tOpen with | none => 0 | some t => t.toNat)

/-- Table 10-7. -/
def CopyEntry.bytes (c : CopyEntry) : List Byte :=
  [BitVec.ofNat 8 c.kind.code, BitVec.ofNat 8 c.sender, c.sequence] ++ bigEndian 3 c.cSof.toNat ++ bigEndian 4 c.tSof.toNat
    ++ (List.range 14).map fun k => c.payload.getD k 0

/-- Bytes 0 to 30 of Table 10-8. -/
def State.bytes0 (s : State) : List Byte :=
  [(match s.mode with | .setup => 0 | .run => 1 | .held => 2 : Byte)] ++ bigEndian 3 s.belt.count.toNat
    ++ bigEndian 4 s.belt.timebase.toNat
    ++ [BitVec.ofNat 8 (s.belt.ring.length + match s.belt.motion with | .stopped => 128 | .moving _ => 0)]
    ++ bigEndian 3 (match s.belt.measure with | none => 16777215 | some d => d.toNat)
    ++ [(match s.scan.link with | .idle => 0 | .exchange _ _ _ => 1 : Byte), BitVec.ofNat 8 s.scan.waiting,
        BitVec.ofNat 8 s.scan.objects.length, s.scan.serial,
        (if s.tx.attempt ≠ none then 2 else if s.tx.mute then 3 else if s.mode = .setup then 0 else 1 : Byte),
        BitVec.ofNat 8 s.tx.urgent.length, BitVec.ofNat 8 s.tx.sightings.length, (if s.tx.beacon = none then 0 else 1 : Byte),
        BitVec.ofNat 8 s.tx.consecutive, s.tx.sequence, BitVec.ofNat 8 s.inbox.length, BitVec.ofNat 8 s.copies.length]
    ++ bigEndian 3 s.line.cSof.toNat ++ bigEndian 4 s.line.tSof.toNat

/-- Bytes 31 to 37 of Table 10-8. -/
def State.bytes31 (s : State) : List Byte :=
  bigEndian 3 s.haltSet.toNat
    ++ [markByte ![s.monitor.doorOpen, s.monitor.stopRequested, s.operatorHalt, false, false, false, false, false],
        s.monitor.accepted, markByte fun i => s.record.inputTrue s.monitor.accepted i.val,
        markByte ![s.monitor.airLow, s.monitor.doorOpen, s.monitor.chuteNotReady, s.monitor.stopRequested,
          decide (s.monitor.watch = .matched), decide (s.monitor.watch = .unmatched), false, false]]

/-- The state of valve `i` in Table 10-8. -/
def State.valveCode (s : State) (i : Nat) : Nat :=
  match s.valves[i]? with
  | some (.opened _ _) => 1
  | some (.resting _) => 2
  | _ => 0

/-- Bytes 38 to 60 of Table 10-8. -/
def State.bytes38 (s : State) : List Byte :=
  [BitVec.ofNat 8 s.tracks.length]
    ++ ([TrackState.collecting, .armed, .watching, .launched, .coasting, .firing].map fun x =>
          BitVec.ofNat 8 (s.tracks.filter fun t => t.state = x).length)
    ++ [BitVec.ofNat 8 s.flightList.length]
    ++ bigEndian 4 (match s.flightList with | [] => 0 | e :: _ => e.due.toNat)
    ++ ((List.range 8).map fun k => BitVec.ofNat 8
          (s.valveCode (4 * k) + 4 * s.valveCode (4 * k + 1) + 16 * s.valveCode (4 * k + 2) + 64 * s.valveCode (4 * k + 3)))
    ++ [BitVec.ofNat 8 s.openCount, BitVec.ofNat 8 (if s.monitor.airLow then s.record.budgetLow else s.record.budget),
        markByte ![s.monitor.airLow, s.monitor.chuteNotReady, false, false, false, false, false, false]]

/-- One entry of Table 10-9. -/
def State.peerBytes (s : State) (id : Fin 24) : List Byte :=
  let p := s.peers[id]
  [markByte ![decide (p.state = .live), decide (p.state = .lost), p.about.isSome, p.haltFlag, s.haltSet.getLsbD id.val,
     false, false, false]]
    ++ (match p.about with
        | none => [0, 0, 0, 0, 0]
        | some d => [BitVec.ofNat 8 (d.role.code * 16 + d.curtain * 4 + d.kind.code), BitVec.ofNat 8 d.laneBase,
                     BitVec.ofNat 8 d.laneCount] ++ bigEndian 2 d.sensorLine)
    ++ [p.lastSequence, 0] ++ bigEndian 4 p.lastHeard.toNat

/-! ## Sightings, outcomes and frames at the track table -/

/-- The station, out of reset and in operation, takes this sighting: the SIGHT at the head of its inbox, its lead being C_sof less
the age, or the oldest local sighting, with its own lead (R40, R89, R90). `s1` is the part without the entry taken. -/
def State.takesSighting (s : State) (c : Instr) (e : Evidence) (s1 : State) : Prop :=
  s.inReset = false ∧ s.mode ≠ .setup ∧
    ((c = .sightTaken ∧ ∃ sender b cSof tSof rest, s.inbox = ⟨sender, .sight b, cSof, tSof⟩ :: rest
        ∧ s1 = { s with inbox := rest }
        ∧ e = { anchorId := sender, anchorSerial := b.serial, kind := b.kind, sensorLine := b.sensorLine
                lead := cSof - BitVec.ofNat 24 b.age, laneFirst := b.laneFirst, laneLast := b.laneLast
                length := b.length, hint := b.hint, strength := b.strength })
      ∨ (c = .localSightingTaken ∧ ∃ x rest, s.localSightings = x :: rest ∧ s1 = { s with localSightings := rest }
        ∧ e = { anchorId := x.sender, anchorSerial := x.serial, kind := x.kind, sensorLine := x.sensorLine
                lead := x.lead, laneFirst := x.laneFirst, laneLast := x.laneLast, length := x.length, hint := x.hint
                strength := x.strength }))

/-- The lanes of a sighting overlap the window widened by spread + 1 on each side (R91). -/
abbrev State.windowHolds (s : State) (e : Evidence) : Prop :=
  s.record.laneBase ≤ e.laneLast + (s.record.spread + 1)
    ∧ e.laneFirst + 1 ≤ s.record.laneBase + s.record.laneCount + (s.record.spread + 1)

/-- The projected A_lead and A_trail of a sighting (R90). -/
def State.leadOf (s : State) (e : Evidence) : Count := e.lead + BitVec.ofNat 24 (s.record.beltHead - e.sensorLine)
def State.trailOf (s : State) (e : Evidence) : Count := s.leadOf e + BitVec.ofNat 24 e.length - 1

/-- Two intervals of belt counts and two lane ranges overlap, within W and within one lane (R93, R121). -/
abbrev State.intervalsMeet (s : State) (lead trail : Count) (u : Track) : Prop :=
  atOrBefore lead (u.aTrail + BitVec.ofNat 24 s.record.tolerance) ∧ atOrBefore u.aLead (trail + BitVec.ofNat 24 s.record.tolerance)
abbrev lanesTouch (first last : Nat) (u : Track) : Prop := first ≤ u.laneLast + 1 ∧ u.laneFirst ≤ last + 1

/-- The sighting matches the track (R93). -/
abbrev State.sightingMeets (s : State) (e : Evidence) (u : Track) : Prop :=
  s.intervalsMeet (s.leadOf e) (s.trailOf e) u ∧ lanesTouch e.laneFirst e.laneLast u

/-- The score of a class 1..5. -/
def Scores.of (x : Scores) (c : PieceClass) : Nat :=
  match c with
  | .unknown => 0
  | .metal => x.metal
  | .wire => x.wire
  | .foam => x.foam
  | .plastic => x.plastic
  | .inert => x.inert

/-- The track `u` has ended with this outcome: it has left the table, its tally has advanced, its trace entry stands as the
newest and in the latest slot (R103). -/
def State.endedWith (s t : State) (u : Track) (e : TrackEnd) : Prop :=
  t.tracks = s.tracks.filter (fun v => v.made ≠ u.made)
    ∧ s.counts t (match e with
        | .fired => .fired u.cls
        | .missed _ => .missed
        | .passed => .passed u.cls
        | .taken => .taken) 1
    ∧ s.wroteTrace t
        { anchorId := u.anchorId, anchorSerial := u.anchorSerial, cls := u.cls, outcome := e, degraded := u.degraded
          oversize := u.oversize, trimmed := u.trimmed, double := u.double, short := u.short, aLead := u.aLead
          laneFirst := u.laneFirst, laneLast := u.laneLast, tOpen := u.flight.map Flight.tOpen }

/-- The transmitter takes an offer into its urgent queue without beginning an attempt (R51). -/
abbrev State.takesOffers (s : State) : Prop :=
  s.mode ≠ .setup ∧ s.tx.mute = false ∧ s.tx.urgent.length < 8 ∧ s.line.status ≠ .idle

/-- What an outcome frame of the track holds in the urgent queue (R115, R133). -/
def State.frameValues (s : State) (u : Track) : Report :=
  { anchorId := u.anchorId, anchorSerial := u.anchorSerial, cls := u.cls, curtain := s.record.curtain, aLead := u.aLead
    length := min 65535 ((u.aTrail - u.aLead).toNat + 1), laneFirst := u.laneFirst, laneLast := u.laneLast }

/-- The frame placed at A_lead' = C_sof + r matches the track by anchor and interval (R120, R121, step 1). -/
abbrev State.meetsByAnchor (s : State) (o : OutcomeBody) (cSof : Count) (u : Track) : Prop :=
  let lead := cSof + BitVec.ofInt 24 o.remaining.toInt
  u.anchorId = o.anchorId ∧ u.anchorSerial = o.anchorSerial ∧ s.intervalsMeet lead (lead + BitVec.ofNat 24 o.length - 1) u

/-- The frame matches the track by interval and lanes (R120, R121, step 2). -/
abbrev State.meetsByPlace (s : State) (o : OutcomeBody) (cSof : Count) (u : Track) : Prop :=
  let lead := cSof + BitVec.ofInt 24 o.remaining.toInt
  s.intervalsMeet lead (lead + BitVec.ofNat 24 o.length - 1) u ∧ lanesTouch o.laneFirst o.laneLast u

/-- The frame finds the track: the earliest in the table by anchor, or, no track matching by anchor, by place (R121). -/
def State.frameFinds (s : State) (o : OutcomeBody) (cSof : Count) (u : Track) : Prop :=
  ∃ front back, s.tracks = front ++ u :: back ∧
    ((s.meetsByAnchor o cSof u ∧ ∀ v ∈ front, ¬ s.meetsByAnchor o cSof v)
      ∨ ((∀ v ∈ s.tracks, ¬ s.meetsByAnchor o cSof v) ∧ s.meetsByPlace o cSof u ∧ ∀ v ∈ front, ¬ s.meetsByPlace o cSof v))

/-- The frame finds no track (R121, step 3). -/
abbrev State.frameFindsNone (s : State) (o : OutcomeBody) (cSof : Count) : Prop :=
  ∀ v ∈ s.tracks, ¬ s.meetsByAnchor o cSof v ∧ ¬ s.meetsByPlace o cSof v

/-- The firing set of a track: valve i is in it when its global lane lies in the track's lanes widened by the spread, in the
window and on the belt (R152). -/
abbrev State.inFiringSet (s : State) (u : Track) (i : Fin 32) : Prop :=
  i.val < s.record.laneCount ∧ s.record.laneBase + i.val ≤ 191 ∧ u.laneFirst ≤ s.record.laneBase + i.val + s.record.spread
    ∧ s.record.laneBase + i.val ≤ u.laneLast + s.record.spread

end Sys2Proof.Machine
end

