-- ==== Sys2Proof/Certificates/Slice0/Obligations.lean ====
section
/-! DEFINITION. The statements for the provers, from the numbered rules of spec/. -/

open Sys2Proof Sys2Proof.Machine

/-! ## The step -/

/-- With a command at the front of the queue, a step is that command on the part with the queue's rest. -/
def Obligations.StepRunsFrontCommand : Prop :=
  ∀ (c : Instr) (rest : List Instr) (s : State), s.pending = c :: rest → step s = exec c { s with pending := rest }

/-- The model's choice (log 1, log 3): with no command waiting, the commands that have fallen due enter the queue in some
order; else a local sighting is taken; else the part waits for what the outside owes; else one microsecond passes (R8). A value of
the response in progress whose moment has come (R166) is formed first, or, where something else is due at this microsecond, it or
that is first. In reset nothing happens (R18). -/
def Obligations.IdleStepFollowsTheClock : Prop :=
  ∀ s : State, s.pending = [] →
    let fallen := ∃ o, s.outgoing = some o ∧ atOrBefore o.due s.belt.timebase
    (s.inReset = true → step s = .next s)
    ∧ (s.inReset = false → ¬ fallen →
        (s.dueCommands ≠ [] →
          ∃ t, step s = .next t ∧ t.pending.Perm s.dueCommands ∧ s.changesOnly t [.pending, .freeCount])
        ∧ (s.dueCommands = [] → s.localSightings ≠ [] → step s = .next { s with pending := [.localSightingTaken] })
        ∧ (s.dueCommands = [] → s.localSightings = [] → s.awaitsOutside = true → step s = .next s)
        ∧ (s.dueCommands = [] → s.localSightings = [] → s.awaitsOutside = false →
            step s = .next { s with belt := { s.belt with timebase := s.belt.timebase + 1 } }))
    ∧ (s.inReset = false → fallen →
        (s.dueCommands = [] → s.localSightings = [] → step s = .next s.formValue)
        ∧ (s.dueCommands ≠ [] ∨ s.localSightings ≠ [] → ∃ t, step s = .next t
            ∧ ((t.response = s.formValue.response ∧ t.outgoing = s.formValue.outgoing
                  ∧ s.changesOnly t [.response, .outgoing, .freeCount])
              ∨ (∃ c, t.pending = [c] ∧ (c ∈ s.dueCommands ∨ (s.dueCommands = [] ∧ c = .localSightingTaken))
                  ∧ s.changesOnly t [.pending, .freeCount]))))

/-- R9: exactly the due times at or before the timebase have their commands among those that fall due. -/
def Obligations.EveryFallenDueTimeHasItsCommand : Prop :=
  ∀ s : State,
    (.stall ∈ s.dueCommands ↔ ∃ due, s.belt.motion = .moving due ∧ atOrBefore due s.belt.timebase)
    ∧ (.beaconDue ∈ s.dueCommands ↔ ∃ due, s.tx.beaconDue = some due ∧ atOrBefore due s.belt.timebase)
    ∧ (∀ i : Fin 24, .peerLossDue i ∈ s.dueCommands ↔
        ∃ due, (s.peers[i]).lossDue = some due ∧ atOrBefore due s.belt.timebase)
    ∧ (.tOpenDue ∈ s.dueCommands ↔
        ∃ t ∈ s.tracks, ∃ f, t.state = .launched ∧ t.flight = some f ∧ atOrBefore f.tOpen s.belt.timebase)
    ∧ (∀ id, .coastingTOpen id ∈ s.dueCommands ↔
        ∃ t ∈ s.tracks, ∃ f, t.made = id ∧ t.state = .coasting ∧ t.flight = some f ∧ atOrBefore f.tOpen s.belt.timebase)
    ∧ (∀ id, .tCloseDue id ∈ s.dueCommands ↔
        ∃ t ∈ s.tracks, ∃ f, t.made = id ∧ t.state = .firing ∧ t.flight = some f ∧ atOrBefore f.tClose s.belt.timebase)
    ∧ (∀ i : Fin 32, .closeAtDue i ∈ s.dueCommands ↔
        ∃ o c, s.valves[i] = .opened o c ∧ atOrBefore c s.belt.timebase)
    ∧ (∀ i : Fin 32, .recoverUntilDue i ∈ s.dueCommands ↔
        ∃ c, s.valves[i] = .resting c ∧ atOrBefore c s.belt.timebase)

/-! ## Whole-machine rules -/

/-- R6, R8, R74, R168, R169, R171: each of these changes only by its own command or a cold start, the record only in SETUP; no
command touches the queue. HALT_ASSERT and HALT_RELEASE may also fall between two advances of one edge. -/
def Obligations.StationRegistersHaveTheirCommands : Prop :=
  ∀ (c : Instr) (s t : State), exec c s = .next t →
    t.pending = s.pending
    ∧ (isReset c = false →
        t.inReset = s.inReset ∧ t.strapId = s.strapId ∧ t.belt.timebase = s.belt.timebase
        ∧ ((∀ r f b, c ≠ .encoderEdge r f b) → t.belt.count = s.belt.count)
        ∧ ((∀ o n d, c ≠ .writeConfig o n d) → t.record = s.record)
        ∧ (s.operating → t.record = s.record)
        ∧ (c ≠ .haltAssert → c ≠ .haltRelease →
            (∀ r f b, c = .encoderEdge r f b → ∀ gap ∈ b, .haltAssert ∉ gap ∧ .haltRelease ∉ gap) →
            t.operatorHalt = s.operatorHalt))

/-- R176, R178: but for CLEAR-FLAGS and a cold start a set flag stays set; but for CLEAR-TALLIES and a cold start no tally
falls. -/
def Obligations.FlagsStaySetAndTalliesNeverFall : Prop :=
  ∀ (c : Instr) (s t : State), exec c s = .next t → isReset c = false →
    ((∀ m, c ≠ .clearFlags m) → ∀ f : Flag, s.flagSet f → t.flagSet f)
    ∧ (c ≠ .clearTallies → ∀ x : Tally, (s.tally x).toNat ≤ (t.tally x).toNat)

/-! ## Invariants every step keeps -/

/-- The capacities of R13, R23, R29, R39, R51, R57, R64, R66, R87 and R179 hold after every step. -/
def Obligations.StepKeepsCapacities : Prop :=
  ∀ s t : State, s.withinCapacity → step s = .next t → t.withinCapacity

/-- R87, R105, R117, R144: the track table stays sound after every step, and stays in order by the distance to A_lead and by age
(R87), through an edge as long as no distance passes the end of its range (R7) and no sighting is taken between its advances. -/
def Obligations.StepKeepsTrackTable : Prop :=
  ∀ s t : State, s.tableSound → step s = .next t →
    t.tableSound
    ∧ (s.tableOrdered →
        (∀ r f b rest, s.pending = .encoderEdge r f b :: rest →
          (∀ gap ∈ b, .sightTaken ∉ gap ∧ .localSightingTaken ∉ gap)
          ∧ ∀ u ∈ s.tracks,
              (((s.belt.accumulator + 1000) / s.record.pitch : Nat) : Int) - 8388608 ≤ distance s.belt.count u.aLead) →
        t.tableOrdered)

/-- R78, R79, R151, R154, R165: no valve is open outside RUN and no track is FIRING in HELD; every open valve lies in the window
and closes within the maximum open time of its opening; never are more than B valves open. -/
def Obligations.StepKeepsValveBankAndLineHold : Prop :=
  ∀ s t : State, s.lineHeld → s.valvesSound → step s = .next t → t.lineHeld ∧ t.valvesSound

/-- R41, R88, R173, R182: in SETUP the track table, the inbox, the transmit queues and the scan unit stay empty. That the local
sightings do is read from R40, R88 and R174 (log 17). -/
def Obligations.StepKeepsSetupAtRest : Prop :=
  ∀ s t : State, s.setupAtRest → step s = .next t → t.setupAtRest

/-- R68, R72, R74, R77: the station is HELD in operation exactly while the halt set is not empty, and the own id is in it exactly
while an own halt cause holds; the own entry stays LIVE and described from START to the next restart, its halt flag the own
halt. -/
def Obligations.StepKeepsHaltSetAndOwnEntry : Prop :=
  ∀ s t : State, s.haltSound → s.ownEntrySound → step s = .next t → t.haltSound ∧ t.ownEntrySound

/-- R81: the four conditions stay those of the accepted levels under the record in force. -/
def Obligations.StepKeepsConditions : Prop :=
  ∀ s t : State, s.conditionsSound → step s = .next t → t.conditionsSound

/-- R170: every field of the record stays in its range, and the two agreements hold. -/
def Obligations.StepKeepsRecordInRange : Prop :=
  ∀ s t : State, s.record.inRange → step s = .next t → t.record.inRange

/-- R3, R12, R15, R17: the accumulator stays below P, the scan phase below S, and the stall due time is the newest stamp plus
10,000. -/
def Obligations.StepKeepsBeltCounter : Prop :=
  ∀ s t : State, s.record.inRange → s.beltSound → step s = .next t → t.beltSound

/-- R52, R56, R57 and section 3.3: the entry of an attempt stands at its place, error counts are 0..2, MUTE is the consecutive
error count of 16, and in MUTE nothing is queued or sent. -/
def Obligations.StepKeepsTransmitter : Prop :=
  ∀ s t : State, s.transmitterSound → step s = .next t → t.transmitterSound

/-- R175: after a cold start, whatever the straps, every invariant holds. -/
def Obligations.ColdStartMeetsEveryInvariant : Prop :=
  ∀ straps : BitVec 5,
    let s := State.cold straps 0 []
    s.withinCapacity ∧ s.tableSound ∧ s.tableOrdered ∧ s.lineHeld ∧ s.setupAtRest ∧ s.haltSound ∧ s.ownEntrySound
      ∧ s.conditionsSound ∧ s.record.inRange ∧ s.beltSound ∧ s.valvesSound ∧ s.transmitterSound

/-! ## Frames on the line -/

/-- Table 3-1, R44, R47, R60: a frame that a station sends is accepted, and read as what it carries; and a frame is accepted only
with a listed kind, a sender id 0..23, the right CRC, a clean end field, every field of its payload in range, and the payload bytes
that a sender of what was read puts on the line: no other cause, reason or bit. -/
def Obligations.SentFramesReadBackAndOthersMustBeSound : Prop :=
  (∀ (sender : BitVec 5) (sequence : Byte) (b : Body), sender.toNat ≤ 23 → b.inRange →
    acceptFrame (frameOf sender sequence b) = some b)
  ∧ ∀ (f : WireFrame) (b : Body), acceptFrame f = some b →
      f.kind.toNat = b.kind.code ∧ f.sender.toNat ≤ 23 ∧ f.endField = 255
        ∧ f.crc = WireFrame.goodCrc f (WireFrame.payloadRead f b.kind) ∧ b.inRange
        ∧ b.encode = WireFrame.payloadRead f b.kind

/-! ## Belt counter -/

/-- R1, R3, R4: a forward counted edge advances the belt count by the belt units it completes and leaves the rest in the
accumulator; with none completed nothing else changes. With nothing between them its advances come one after another with the edge's
time as their stamp, each the belt counter's own part (R13, R14), then the scan phase (R11), then the tracks that reach their counts
(R102), each whole before the next. A start edge of an idle line latched (R48), a value formed, or any other thing between two of its
advances reads the count as it stands there (R10, R20): that these come between the advances as the command's operand is the model's
choice (log 5). -/
def Obligations.ForwardEdgeAdvancesTheBelt : Prop :=
  ∀ (rising : Bool) (s : State) (between : List (List Between)), s.inReset = false →
    (s.record.countedEdge = .both ∨ (s.record.countedEdge = .rising ∧ rising = true)
      ∨ (s.record.countedEdge = .falling ∧ rising = false)) →
    let units := (s.belt.accumulator + 1000) / s.record.pitch
    let advances : Nat → State → State := Nat.repeat fun x =>
      ({ x with belt := x.belt.advance s.belt.timebase }.countPhase).beltEvents s.belt.timebase
    let gained := { s with belt := { s.belt with accumulator := (s.belt.accumulator + 1000) % s.record.pitch } }
    ∃ t, exec (.encoderEdge rising true between) s = .next t
      ∧ t.belt.count = s.belt.count + BitVec.ofNat 24 units
      ∧ t.belt.accumulator = (s.belt.accumulator + 1000) % s.record.pitch
      ∧ (between = [] →
          t = advances units gained
          ∧ s.changesOnly t [.belt, .scan, .tracks, .valves, .tallies, .flags, .trace, .latest, .tx, .line])
      ∧ s.changesOnly t [.mode, .belt, .scan, .localSightings, .tx, .line, .inbox, .peers, .haltSet, .operatorHalt, .monitor,
          .tracks, .nextMade, .valves, .flags, .tallies, .trace, .latest, .response, .outgoing, .freeCount]
      ∧ (units = 0 → t = gained)
      ∧ (∀ k gap, k + 1 < units → between = List.replicate k [] ++ [gap] →
          t = advances (units - (k + 1)) (gap.foldl State.meet (advances (k + 1) gained))
          ∧ (advances (k + 1) gained).belt.count = s.belt.count + BitVec.ofNat 24 (k + 1))
      ∧ (∀ k, k + 1 < units → s.line.status = .idle → (s.mode = .setup ∨ s.tx.mute = true ∨ s.tracks = []) →
          between = List.replicate k [] ++ [[.startEdgeLatch]] →
          t.line = { status := .receiving false, cSof := s.belt.count + BitVec.ofNat 24 (k + 1), tSof := s.belt.timebase })
      ∧ (∀ k o, k + 1 < units → s.outgoing = some o → o.values = [.ofState 1] → atOrBefore o.due s.belt.timebase →
          between = List.replicate k [] ++ [[.portValue]] →
          t.response = s.response ++ bigEndian 3 (s.belt.count + BitVec.ofNat 24 (k + 1)).toNat ∧ t.outgoing = none)

/-- R2, and the ignored edges of R1. -/
def Obligations.ReverseEdgeOnlyCounts : Prop :=
  ∀ (rising : Bool) (s : State) (between : List (List Between)), s.inReset = false →
    ((s.record.countedEdge = .both ∨ (s.record.countedEdge = .rising ∧ rising = true)
        ∨ (s.record.countedEdge = .falling ∧ rising = false)) →
      ∃ t, exec (.encoderEdge rising false between) s = .next t ∧ s.counts t .reverse 1 ∧ t.flagSet .reverse
        ∧ (∀ x, x ≠ .reverse → t.tally x = s.tally x) ∧ (∀ f, f ≠ .reverse → t.flagSet f = s.flagSet f)
        ∧ s.changesOnly t [.tallies, .flags])
    ∧ (∀ forward,
        ((s.record.countedEdge = .rising ∧ rising = false) ∨ (s.record.countedEdge = .falling ∧ rising = true)) →
        exec (.encoderEdge rising forward between) s = .next s)

/-- R13, R14, R16: from an empty ring the first 16 advances form no speed measure; from the 17th on it is the time since the
advance sixteen before; the ring keeps the last 16 stamps. -/
def Obligations.SpeedMeasureSpansSixteenAdvances : Prop :=
  ∀ (b : Belt) (stamps : List Time) (stamp : Time), b.ring = [] →
    let c := stamps.foldl Belt.advance b
    (stamps.length < 16 → (c.advance stamp).measure = none)
    ∧ (16 ≤ stamps.length → ∀ first, stamps[stamps.length - 16]? = some first →
        (c.advance stamp).measure = some (stamp - first))
    ∧ c.ring = stamps.drop (stamps.length - 16)
    ∧ (c.advance stamp).count = b.count + BitVec.ofNat 24 (stamps.length + 1)
    ∧ (c.advance stamp).motion = .moving (stamp + 10000)

/-- R11, R21, R23: the scan phase counts in operation on a sensing station; at S it returns to 0 and raises a scan event, which
requests a line or waits behind the exchange. -/
def Obligations.ScanPhaseRaisesScanEvents : Prop :=
  ∀ s : State,
    ((s.mode = .setup ∨ s.record.role = .eject) → s.countPhase = s)
    ∧ (s.mode ≠ .setup → s.record.role ≠ .eject → s.belt.scanPhase + 1 < s.record.scanPitch →
        s.countPhase = { s with belt := { s.belt with scanPhase := s.belt.scanPhase + 1 } })
    ∧ (s.mode ≠ .setup → s.record.role ≠ .eject → s.record.scanPitch ≤ s.belt.scanPhase + 1 →
        (s.scan.link = .idle →
          s.countPhase = { s with
            belt := { s.belt with scanPhase := 0 }
            scan := { s.scan with
              link := .exchange s.belt.count (s.belt.timebase + BitVec.ofNat 32 (s.record.laneCount + 2)) false } })
        ∧ (∀ stamp ends void, s.scan.link = .exchange stamp ends void →
            s.countPhase.belt = { s.belt with scanPhase := 0 }
            ∧ s.countPhase.scan = { s.scan with waiting := if s.scan.waiting < 255 then s.scan.waiting + 1 else s.scan.waiting }
            ∧ s.counts s.countPhase .scanSkip 1 ∧ s.countPhase.flagSet .scanSkip
            ∧ s.talliesOnly s.countPhase [.scanSkip] ∧ s.flagsOnly s.countPhase [.scanSkip]
            ∧ s.changesOnly s.countPhase [.belt, .scan, .tallies, .flags]))

/-- R15, R70: a stall and the loss of a peer, when their due times have fallen due. -/
def Obligations.StallAndPeerLossFallDue : Prop :=
  ∀ s : State, s.inReset = false →
    (∀ due, s.belt.motion = .moving due → atOrBefore due s.belt.timebase →
      ∃ t, exec .stall s = .next t ∧ t.belt = { s.belt with ring := [], measure := none, motion := .stopped }
        ∧ s.counts t .stall 1 ∧ t.flagSet .stall ∧ s.talliesOnly t [.stall] ∧ s.flagsOnly t [.stall]
        ∧ s.changesOnly t [.belt, .tallies, .flags])
    ∧ (∀ (id : Fin 24) due, (s.peers[id]).lossDue = some due → atOrBefore due s.belt.timebase →
        ∃ t, exec (.peerLossDue id) s = .next t ∧ t.peers[id] = { s.peers[id] with state := .lost, lossDue := none }
          ∧ (∀ i : Fin 24, i ≠ id → t.peers[i] = s.peers[i])
          ∧ s.counts t .peerLost 1 ∧ t.flagSet .peerLost ∧ s.talliesOnly t [.peerLost] ∧ s.flagsOnly t [.peerLost]
          ∧ s.changesOnly t [.peers, .tallies, .flags])

/-! ## Scan unit -/

/-- R22 to R26: at its end an exchange leaves the link IDLE and nothing waiting. A ready line becomes the held line, one not ready
counts a skipped scan; its scan is processed with the exchange's stamp, then each waiting scan with that stamp plus k times S, all
with the held line. The scan of a void exchange is not processed and its line not kept; the scans waiting behind it are processed,
the model's reading (log 23). That an exchange ends no earlier than its time is another (log 28). -/
def Obligations.ExchangeEndsWithItsLine : Prop :=
  ∀ (status : Byte) (magnitudes : Vector Byte 32) (s : State) (stamp : Count) (ends : Time),
    s.inReset = false → atOrBefore ends s.belt.timebase →
    let settled : State → State := fun x => (List.range s.scan.waiting).foldl
      (fun y k => y.processScan (stamp + BitVec.ofNat 24 ((k + 1) * s.record.scanPitch)))
      { x with scan := { x.scan with link := .idle, waiting := 0 } }
    (s.scan.link = .exchange stamp ends false →
      ∃ t, exec (.exchangeComplete status magnitudes) s = .next t ∧ t.scan.link = .idle ∧ t.scan.waiting = 0
        ∧ (let held := { s with scan := { s.scan with
              heldPresence := t.scan.heldPresence, heldMagnitudes := t.scan.heldMagnitudes } }
           (status = 90 → t = settled (held.processScan stamp))
           ∧ (status ≠ 90 → t = settled (((s.bump .scanSkip).raise .scanSkip).processScan stamp)))
        ∧ (status = 90 →
            (∀ i : Fin 32,
              (t.scan.heldPresence.getLsbD i.val = true ↔
                i.val < s.record.laneCount ∧ s.record.laneMask.getLsbD i.val = true
                  ∧ s.record.presenceThreshold ≤ (magnitudes[i]).toNat)
              ∧ (i.val < s.record.laneCount → t.scan.heldMagnitudes[i] = magnitudes[i]))
            ∧ t.tally .scanSkip = s.tally .scanSkip ∧ t.flagSet .scanSkip = s.flagSet .scanSkip)
        ∧ (status ≠ 90 → t.scan.heldPresence = s.scan.heldPresence ∧ t.scan.heldMagnitudes = s.scan.heldMagnitudes
            ∧ s.counts t .scanSkip 1 ∧ t.flagSet .scanSkip)
        ∧ s.talliesOnly t [.scanSkip, .objOverflow, .fines, .sightDrop, .muteDrop, .stale]
        ∧ s.flagsOnly t [.scanSkip, .objOverflow]
        ∧ s.changesOnly t [.scan, .localSightings, .tx, .line, .tallies, .flags])
    ∧ (s.scan.link = .exchange stamp ends true →
        ∃ t, exec (.exchangeComplete status magnitudes) s = .next t ∧ t = settled s
          ∧ (s.scan.waiting = 0 → t = { s with scan := { s.scan with link := .idle, waiting := 0 } })
          ∧ t.scan.link = .idle ∧ t.scan.waiting = 0
          ∧ t.scan.heldPresence = s.scan.heldPresence ∧ t.scan.heldMagnitudes = s.scan.heldMagnitudes
          ∧ s.talliesOnly t [.objOverflow, .fines, .sightDrop, .muteDrop, .stale] ∧ s.flagsOnly t [.objOverflow]
          ∧ s.changesOnly t [.scan, .localSightings, .tx, .line, .tallies, .flags])

/-- R27, for one scan processed with the held line. -/
def Obligations.PresenceFollowsTwoEqualScans : Prop :=
  ∀ (s : State) (stamp : Count),
    (s.processScan stamp).scan.lastRaw = s.scan.heldPresence
    ∧ s.changesOnly (s.processScan stamp) [.scan, .localSightings, .tx, .line, .tallies, .flags]
    ∧ ∀ i : Nat, i < 32 →
        (s.processScan stamp).scan.filtered.getLsbD i =
          if s.scan.heldPresence.getLsbD i = s.scan.lastRaw.getLsbD i
              ∧ s.scan.heldPresence.getLsbD i ≠ s.scan.filtered.getLsbD i
          then s.scan.heldPresence.getLsbD i
          else s.scan.filtered.getLsbD i

/-- R28: the runs of a scan are its maximal sets of adjacent present lanes, in ascending order, at most 16. -/
def Obligations.RunsAreMaximalAndAscending : Prop :=
  ∀ p : BitVec 32,
    (∀ i : Nat, i < 32 → (p.getLsbD i = true ↔ ∃ r ∈ runsOf p, r.first ≤ i ∧ i ≤ r.last))
    ∧ (∀ r ∈ runsOf p, r.first ≤ r.last ∧ r.last ≤ 31)
    ∧ (runsOf p).Pairwise (fun a b => a.last + 1 < b.first)
    ∧ (runsOf p).length ≤ 16

/-- R29, R30, R31: a run opens an object, extends the one it touches, or merges those it touches; an object it does not touch
stays. -/
def Obligations.RunOpensExtendsOrMerges : Prop :=
  ∀ (stamp : Count) (mags : Vector Byte 32) (conts : List Span) (ws : List Working) (run : Span),
    let cells := runMagnitudes mags run
    let h := handleRun stamp mags conts ws run
    ((∀ w ∈ ws, w.touchedBy run = false) →
      (16 ≤ ws.length → h = (ws, true))
      ∧ (ws.length < 16 → h.2 = false ∧ ∃ m, h.1 = ws ++ [m] ∧ m.prior = [] ∧ m.extended = true
          ∧ m.obj.firstTouched = stamp ∧ m.obj.lastTouched = stamp ∧ m.obj.laneSpan = run ∧ m.obj.lastScanSpan = run
          ∧ m.obj.area = cells.length ∧ m.obj.magnitudeSum = cells.sum ∧ m.obj.peak = cells.foldl max 0
          ∧ (m.obj.cont = true ↔ ∃ c ∈ conts, run.near c = true)))
    ∧ (∀ front w back, ws = front ++ w :: back → (∀ x ∈ front, x.touchedBy run = false) → w.touchedBy run = true →
        let others := back.filter fun x => x.touchedBy run
        let extended := (w :: others).filter fun x => x.extended
        h.2 = false ∧ ∃ m, h.1 = front ++ m :: (back.filter fun x => !x.touchedBy run)
          ∧ m.extended = true ∧ m.prior = (w :: others).flatMap Working.prior ∧ m.obj.lastTouched = stamp
          ∧ m.obj.firstTouched = others.foldl (fun a x => earlier a x.obj.firstTouched) w.obj.firstTouched
          ∧ m.obj.area = min 65535 (((w :: others).map fun x => x.obj.area).sum + cells.length)
          ∧ m.obj.magnitudeSum = min 16777215 (((w :: others).map fun x => x.obj.magnitudeSum).sum + cells.sum)
          ∧ m.obj.peak = cells.foldl max (others.foldl (fun a x => max a x.obj.peak) w.obj.peak)
          ∧ m.obj.laneSpan.first = (w :: others).foldl (fun a x => min a x.obj.laneSpan.first) run.first
          ∧ m.obj.laneSpan.last = (w :: others).foldl (fun a x => max a x.obj.laneSpan.last) run.last
          ∧ m.obj.lastScanSpan.first = extended.foldl (fun a x => min a x.obj.lastScanSpan.first) run.first
          ∧ m.obj.lastScanSpan.last = extended.foldl (fun a x => max a x.obj.lastScanSpan.last) run.last
          ∧ (m.obj.cont = true ↔ (∃ x ∈ w :: others, x.obj.cont = true) ∨ ∃ c ∈ conts, run.near c = true))

/-- R28, R32 to R34: when the runs of a scan have been handled one after another, the objects that no run touched are closed, those
touched that have reached the maximum sighting length are cut and leave their last-scan spans as the continuation spans, and the
others stay open; the closings come oldest first, and each ignored run counts OBJ-OVERFLOW. R35 to R38, R40: a closed object below
the minimum area is fines; any other becomes a sighting, which takes the serial, is queued, and on a BOTH station is handed to the
track unit. -/
def Obligations.ClosedObjectBecomesSighting : Prop :=
  (∀ (s : State) (stamp : Count),
    let t := s.processScan stamp
    let runs := runsOf t.scan.filtered
    let handled := runs.foldl (fun (acc : List Working × Nat) run =>
        let h := handleRun stamp s.scan.heldMagnitudes s.scan.continuations acc.1 run
        (h.1, acc.2 + if h.2 then 1 else 0)) (s.scan.objects.map OpenObject.working, 0)
    let long := fun w : Working => decide ((s.record.maxSightingLength : Int) ≤ distance w.obj.firstTouched stamp)
    handled.1.filter (fun w => !w.extended) =
        (s.scan.objects.filter fun o => runs.all fun run => !run.near o.lastScanSpan).map OpenObject.working
      ∧ t.scan.objects = (handled.1.filter fun w => w.extended && !long w).map Working.obj
      ∧ t.scan.continuations = (handled.1.filter fun w => w.extended && long w).map (fun w => w.obj.lastScanSpan)
      ∧ ∃ s1, t = (handled.1.filter fun w => !w.extended || long w).foldl (fun x w => x.closeObject w.obj w.extended) s1
          ∧ s1.scan = { s.scan with lastRaw := t.scan.lastRaw, filtered := t.scan.filtered, objects := t.scan.objects
                                    continuations := t.scan.continuations }
          ∧ s.counts s1 .objOverflow handled.2
          ∧ s1.flagSet .objOverflow = (s.flagSet .objOverflow || decide (handled.2 ≠ 0))
          ∧ s.talliesOnly s1 [.objOverflow] ∧ s.flagsOnly s1 [.objOverflow] ∧ s.changesOnly s1 [.scan, .tallies, .flags])
  ∧ ∀ (s : State) (o : OpenObject) (cut : Bool),
    (o.area < s.record.minArea → s.closeObject o cut = s.bump .fines)
    ∧ (s.record.minArea ≤ o.area →
        ∃ x : Sighting, x.sender = s.strapId.toNat ∧ x.serial = s.scan.serial ∧ x.kind = s.record.kind
          ∧ x.sensorLine = s.record.sensorLine
          ∧ x.lead = o.firstTouched - BitVec.ofNat 24 s.record.scanPitch
          ∧ x.length = (o.lastTouched - o.firstTouched).toNat + s.record.scanPitch
          ∧ x.laneFirst = s.record.laneBase + o.laneSpan.first ∧ x.laneLast = s.record.laneBase + o.laneSpan.last
          ∧ x.area = o.area ∧ x.peak = o.peak ∧ x.cut = cut ∧ x.cont = o.cont
          ∧ (∀ pre b post, s.record.bands = pre ++ b :: post → b.enabled = true → b.lo ≤ o.magnitudeSum / o.area →
              o.magnitudeSum / o.area ≤ b.hi →
              (∀ p ∈ pre, p.enabled = true → p.lo ≤ o.magnitudeSum / o.area → ¬ o.magnitudeSum / o.area ≤ p.hi) →
              x.hint = b.cls ∧ x.strength = o.magnitudeSum / o.area)
          ∧ ((∀ p ∈ s.record.bands, p.enabled = true → p.lo ≤ o.magnitudeSum / o.area → ¬ o.magnitudeSum / o.area ≤ p.hi) →
              x.hint = .unknown ∧ x.strength = 0)
          ∧ s.changesOnly (s.closeObject o cut) [.scan, .localSightings, .tx, .line, .tallies]
          ∧ (s.closeObject o cut).scan = { s.scan with serial := s.scan.serial + 1 }
          ∧ (s.closeObject o cut).localSightings =
              (if s.record.role = .both then s.localSightings ++ [x] else s.localSightings)
          ∧ (s.mode ≠ .setup → s.tx.mute = false → s.line.status ≠ .idle →
              (s.closeObject o cut).tx.sightings =
                if s.tx.sightings.length < 16 then s.tx.sightings ++ [{ sighting := x, errors := 0 }] else s.tx.sightings))

/-! ## Link transmitter and line -/

/-- R45, R48, R49, R50, R53: at an idle line the head of the first queue that holds an entry is sent, with the stamp and the fields
of its start edge, the stale sightings before it discarded; without a frame to send, or in SETUP or MUTE, the line is idle. A start
edge of another station taken first at that instant is latched, and no attempt begins; that it comes as the command's operand is the
model's choice (log 7), and that a lead ahead of C_sof is stale is too (log 14). -/
def Obligations.IdleLineBeginsTheNextFrame : Prop :=
  ∀ s : State, s.inReset = false → (s.line.status = .waiting ∨ s.line.status = .idle) →
    let sent : Source → Body → State := fun source b =>
      { s with
        line := { status := .receiving false, cSof := s.belt.count, tSof := s.belt.timebase }
        tx := { s.tx with
          attempt := some { source := source, fate := .present, frame := frameOf s.strapId s.tx.sequence b } } }
    exec (.lineIdle true) s =
        .next { s with line := { status := .receiving false, cSof := s.belt.count, tSof := s.belt.timebase } }
    ∧ ((s.mode = .setup ∨ s.tx.mute = true ∨ (s.tx.urgent = [] ∧ s.tx.sightings = [] ∧ s.tx.beacon = none)) →
      exec .lineIdle s = .next { s with line := { s.line with status := .idle } })
    ∧ (s.mode ≠ .setup → s.tx.mute = false →
        (∀ e rest, s.tx.urgent = e :: rest → exec .lineIdle s = .next (sent .urgent (e.content.body s.belt.count)))
        ∧ ∀ stale, s.tx.urgent = [] → (∀ e ∈ stale, 4095 < (s.belt.count - e.sighting.lead).toNat) →
          (∀ e rest, s.tx.sightings = stale ++ e :: rest → (s.belt.count - e.sighting.lead).toNat ≤ 4095 →
            ∃ t, exec .lineIdle s = .next t
              ∧ t.tx = { (sent .sighting (e.sighting.body s.belt.count)).tx with sightings := e :: rest }
              ∧ t.line = (sent .sighting (e.sighting.body s.belt.count)).line
              ∧ s.counts t .stale stale.length ∧ s.talliesOnly t [.stale] ∧ s.changesOnly t [.tx, .line, .tallies])
          ∧ (∀ n, s.tx.sightings = stale → s.tx.beacon = some n →
              let status : Body := .status
                { held := s.mode == .held, haltFlag := s.inHaltSet s.strapId.toNat, about := s.record.about }
              ∃ t, exec .lineIdle s = .next t ∧ t.tx = { (sent .beacon status).tx with sightings := [] }
                ∧ t.line = (sent .beacon status).line
                ∧ s.counts t .stale stale.length ∧ s.talliesOnly t [.stale] ∧ s.changesOnly t [.tx, .line, .tallies]))

/-- R49, R50, Table 3-3: the time-dependent fields are filled at the start edge, the others are the queue entry's; a run of stale
sightings at the head is discarded at one start edge, each with STALE, and with nothing else to send the attempt ends at once. That
a lead ahead of C_sof is stale is the model's choice (log 14). -/
def Obligations.StartEdgeFillsFieldsAndDropsStale : Prop :=
  (∀ (cSof : Count) (x : Sighting) (r : Report) (reason : MissReason),
    (∃ b, x.body cSof = .sight b ∧ b.age = (cSof - x.lead).toNat ∧ b.serial = x.serial ∧ b.sensorLine = x.sensorLine
      ∧ b.laneFirst = x.laneFirst ∧ b.laneLast = x.laneLast ∧ b.length = x.length ∧ b.hint = x.hint
      ∧ b.strength = x.strength ∧ b.kind = x.kind ∧ b.cut = x.cut ∧ b.cont = x.cont ∧ b.area = x.area ∧ b.peak = x.peak)
    ∧ (∀ on cause, (Urgent.halt on cause).body cSof = .halt on cause)
    ∧ (∃ o, (Urgent.missed reason r).body cSof = .missed reason o ∧ (Urgent.fired r).body cSof = .fired o
        ∧ (Urgent.claim r).body cSof = .claim o
        ∧ o.remaining.toInt = max (-32768) (min 32767 (distance cSof r.aLead))
        ∧ o.anchorId = r.anchorId ∧ o.anchorSerial = r.anchorSerial ∧ o.cls = r.cls ∧ o.curtain = r.curtain
        ∧ o.length = r.length ∧ o.laneFirst = r.laneFirst ∧ o.laneLast = r.laneLast))
  ∧ ∀ s : State, s.inReset = false → (s.line.status = .waiting ∨ s.line.status = .idle) →
      s.mode ≠ .setup → s.tx.mute = false → s.tx.urgent = [] → s.tx.sightings ≠ [] →
      (∀ e ∈ s.tx.sightings, 4095 < (s.belt.count - e.sighting.lead).toNat) → s.tx.beacon = none →
      ∃ t, exec .lineIdle s = .next t ∧ t.tx = { s.tx with sightings := [] }
        ∧ t.line = { status := .receiving false, cSof := s.belt.count, tSof := s.belt.timebase }
        ∧ s.counts t .stale s.tx.sightings.length ∧ s.talliesOnly t [.stale] ∧ s.changesOnly t [.tx, .line, .tallies]

/-- R45, R48, R54, R55: a dominant bit of another station is a start edge, and is latched, on an idle line alone: before the line
is idle it begins no frame, and in a frame it changes nothing, nor does LINE_IDLE (log 7); a lost arbitration leaves the entry, the sequence
number and the error counts; a completed attempt takes its entry away, advances the sequence number and clears the consecutive error
count. -/
def Obligations.StartEdgesAndAttemptEnds : Prop :=
  ∀ s : State, s.inReset = false →
    (s.line.status = .idle → exec .startEdgeLatch s =
        .next { s with line := { status := .receiving false, cSof := s.belt.count, tSof := s.belt.timebase } })
    ∧ (s.line.status ≠ .idle → exec .startEdgeLatch s = .next s)
    ∧ (s.line.status ≠ .waiting → s.line.status ≠ .idle → ∀ startEdge, exec (.lineIdle startEdge) s = .next s)
    ∧ (∀ a, s.tx.attempt = some a →
        (∀ bit : Fin 8, WireFrame.arbitrationBit a.frame bit = true →
          exec (.arbitrationLost bit) s = .next { s with tx := { s.tx with attempt := none } })
        ∧ ∃ t, exec .attemptComplete s = .next t ∧ t.tx.attempt = none ∧ t.tx.sequence = s.tx.sequence + 1
            ∧ t.tx.consecutive = 0 ∧ t.line = { s.line with status := .receiving true }
            ∧ (a.fate ≠ .gone →
                t.tx.urgent = (if a.source = .urgent then s.tx.urgent.tail else s.tx.urgent)
                ∧ t.tx.sightings = (if a.source = .sighting then s.tx.sightings.tail else s.tx.sightings)
                ∧ t.tx.beacon = (if a.source = .beacon then none else s.tx.beacon))
            ∧ (a.fate = .gone → t.tx.urgent = s.tx.urgent ∧ t.tx.sightings = s.tx.sightings ∧ t.tx.beacon = s.tx.beacon)
            ∧ t.tx.mute = s.tx.mute ∧ t.tx.beaconDue = s.tx.beaconDue ∧ s.changesOnly t [.tx, .line])

/-- R52, R56, R57, R58: a bit error ends the attempt, breaks its frame on the line and raises both error counts; at 3 the entry is
dropped with TX-ERR, a replaced STATUS and an entry gone at a warm restart having none; at 16 running the transmitter enters MUTE and
every entry left goes with MUTE-DROP. -/
def Obligations.BitErrorsDropEntriesAndMute : Prop :=
  ∀ (s : State) (a : Attempt), s.inReset = false → s.tx.attempt = some a → s.tx.consecutive < 16 →
    ∃ t urgent sightings beacon dropped, exec .bitError s = .next t
      ∧ s.tx.charged a urgent sightings beacon dropped
      ∧ (s.tx.consecutive < 15 →
          t.tx = { s.tx with urgent := urgent, sightings := sightings, beacon := beacon, attempt := none
                             consecutive := s.tx.consecutive + 1 }
          ∧ t.flags = s.flags ∧ s.counts t .muteDrop 0)
      ∧ (s.tx.consecutive = 15 →
          t.tx = { s.tx with urgent := [], sightings := [], beacon := none, attempt := none, consecutive := 16, mute := true }
          ∧ t.flagSet .mute ∧ s.counts t .muteDrop (urgent.length + sightings.length + beacon.toList.length))
      ∧ t.line = { s.line with status := .broken }
      ∧ s.counts t .txErr dropped ∧ s.talliesOnly t [.txErr, .muteDrop] ∧ s.flagsOnly t [.mute]
      ∧ s.changesOnly t [.tx, .line, .tallies, .flags]

/-- R49, R52, R53: at its due time a STATUS takes the beacon slot, with error count 0, and the due time advances by one interval; a
STATUS being sent is replaced, and nothing else changes while the line is not idle; in MUTE the STATUS is discarded; on an idle line
the station does at once what it does when a line becomes idle, and with no other frame waiting sends the STATUS. -/
def Obligations.BeaconFallsDue : Prop :=
  ∀ (s : State) (due : Time), s.inReset = false → s.mode ≠ .setup → s.tx.beaconDue = some due →
    atOrBefore due s.belt.timebase →
    let next := due + BitVec.ofNat 32 s.record.beaconInterval
    let kept : Attempt → Attempt := fun a => if a.source = .beacon ∧ a.fate = .present then { a with fate := .replaced } else a
    let placed := { s with
      tx := { s.tx with beaconDue := some next, beacon := some 0, attempt := s.tx.attempt.map kept } }
    ∃ t, exec .beaconDue s = .next t ∧ t.tx.beaconDue = some next
      ∧ s.talliesOnly t [.muteDrop, .stale] ∧ s.changesOnly t [.tx, .line, .tallies]
      ∧ (s.tx.mute = true → t.tx = { s.tx with beaconDue := some next } ∧ t.line = s.line ∧ s.counts t .muteDrop 1
          ∧ s.talliesOnly t [.muteDrop])
      ∧ (s.tx.mute = false →
          (s.line.status ≠ .idle → t = placed)
          ∧ (s.line.status = .idle → exec .lineIdle placed = .next t ∧ t.tx.beacon = some 0
              ∧ (s.tx.urgent = [] → s.tx.sightings = [] →
                  let status : Body := .status
                    { held := s.mode == .held, haltFlag := s.inHaltSet s.strapId.toNat, about := s.record.about }
                  let sent : Attempt :=
                    { source := .beacon, fate := .present, frame := frameOf s.strapId s.tx.sequence status }
                  t = { placed with
                    line := { status := .receiving false, cSof := s.belt.count, tSof := s.belt.timebase }
                    tx := { placed.tx with attempt := some sent } })))

/-- R39, R51, R53, R133: what becomes of a frame offered to the urgent queue and of a sighting offered to the sighting queue. On a
line that stands idle the offer is followed at once by what an idle line begins: the frame just offered when no other waits before
it and, for a sighting, its age is within the limit of R50. -/
def Obligations.OffersFollowTheTransmitterState : Prop :=
  ∀ (s : State) (u : Urgent) (x : Sighting),
    let withUrgent : Transmitter := { s.tx with urgent := s.tx.urgent ++ [{ content := u, errors := 0 }] }
    let withSighting : Transmitter := { s.tx with sightings := s.tx.sightings ++ [{ sighting := x, errors := 0 }] }
    let queued := if s.tx.urgent.length < 8 then { s with tx := withUrgent } else s.bump .urgentDrop
    let queuedSighting := if s.tx.sightings.length < 16 then { s with tx := withSighting } else s.bump .sightDrop
    let latched : LineLink := { status := .receiving false, cSof := s.belt.count, tSof := s.belt.timebase }
    let begun : Source → Body → Attempt := fun source b =>
      { source := source, fate := .present, frame := frameOf s.strapId s.tx.sequence b }
    (s.mode = .setup → s.offer u = s ∧ s.offerSighting x = s)
    ∧ (s.mode ≠ .setup → s.tx.mute = true → s.offer u = s.bump .muteDrop ∧ s.offerSighting x = s.bump .muteDrop)
    ∧ (s.mode ≠ .setup → s.tx.mute = false → s.line.status ≠ .idle →
        s.offer u = queued ∧ s.offerSighting x = queuedSighting)
    ∧ (s.mode ≠ .setup → s.tx.mute = false → s.line.status = .idle →
        (s.inReset = false →
          exec .lineIdle queued = .next (s.offer u) ∧ exec .lineIdle queuedSighting = .next (s.offerSighting x))
        ∧ (s.tx.urgent = [] →
            s.offer u = { s with
              line := latched
              tx := { withUrgent with attempt := some (begun .urgent (u.body s.belt.count)) } }
            ∧ (s.tx.sightings = [] → (s.belt.count - x.lead).toNat ≤ 4095 →
                s.offerSighting x = { s with
                  line := latched
                  tx := { withSighting with attempt := some (begun .sighting (x.body s.belt.count)) } })))

/-! ## Link receiver, peers and halt set -/

/-- R56, R60, R61, R62, R66: a frame discarded counts RX-CRC, and a frame that the own transmitter has broken after a bit error is
discarded whatever was read of it; the station's own frame is only copied; another with the own id raises DUP-ID. -/
def Obligations.DiscardedOwnAndDuplicateFrames : Prop :=
  ∀ (f : WireFrame) (s : State), s.inReset = false → s.tx.attempt = none →
    let discarded := ∃ t, exec (.frameReceived f) s = .next t ∧ t.line = { s.line with status := .waiting }
      ∧ s.counts t .rxCrc 1 ∧ s.talliesOnly t [.rxCrc] ∧ s.changesOnly t [.line, .tallies]
    (s.line.status = .broken → discarded)
    ∧ ∀ own, s.line.status = .receiving own →
        (acceptFrame f = none → discarded)
        ∧ (∀ b, acceptFrame f = some b →
            (own = true →
              ∃ t, exec (.frameReceived f) s = .next t ∧ t.line = { s.line with status := .waiting }
                ∧ s.copied t f b.kind ∧ s.talliesOnly t [.copyLoss] ∧ s.changesOnly t [.line, .copies, .tallies])
            ∧ (own = false → f.sender = s.strapId →
                ∃ t, exec (.frameReceived f) s = .next t ∧ t.line = { s.line with status := .waiting } ∧ s.counts t .dupId 1
                  ∧ t.flagSet .dupId ∧ s.talliesOnly t [.dupId] ∧ s.flagsOnly t [.dupId]
                  ∧ s.changesOnly t [.line, .tallies, .flags]))

/-- R63, R64, R66, R69: an accepted SIGHT, CLAIM, FIRED or MISSED of another station makes its entry LIVE with a new loss due
time, counts the gap, joins the inbox or overruns it, and joins the copy FIFO when routed. -/
def Obligations.HeardFramesReachPeerInboxAndCopies : Prop :=
  ∀ (f : WireFrame) (b : Body) (s : State) (id : Fin 24), s.inReset = false → s.line.status = .receiving false →
    s.tx.attempt = none → acceptFrame f = some b → b.kind ≠ .halt → b.kind ≠ .status → f.sender.toNat = id.val →
    f.sender ≠ s.strapId →
    ∃ t, exec (.frameReceived f) s = .next t ∧ t.line = { s.line with status := .waiting }
      ∧ t.peers[id] = { s.peers[id] with
          state := .live, lastSequence := f.sequence, lastHeard := s.line.tSof
          lossDue := some (s.line.tSof + BitVec.ofNat 32 (4 * s.record.beaconInterval)) }
      ∧ (∀ i : Fin 24, i ≠ id → t.peers[i] = s.peers[i])
      ∧ s.countsGap t (s.peers[id]) f.sequence
      ∧ ((s.mode = .setup ∨ s.record.role = .sense) → t.inbox = s.inbox)
      ∧ (s.mode ≠ .setup → s.record.role ≠ .sense →
          (s.inbox.length < 16 →
            t.inbox = s.inbox ++ [{ sender := id.val, body := b, cSof := s.line.cSof, tSof := s.line.tSof }])
          ∧ (16 ≤ s.inbox.length → t.inbox = s.inbox ∧ s.counts t .rxOverrun 1 ∧ t.flagSet .rxOverrun))
      ∧ ((s.mode = .setup ∨ s.record.role = .sense ∨ s.inbox.length < 16) →
          s.talliesOnly t [.gaps, .copyLoss] ∧ s.flagsOnly t [.gaps])
      ∧ s.copied t f b.kind
      ∧ s.talliesOnly t [.gaps, .copyLoss, .rxOverrun] ∧ s.flagsOnly t [.gaps, .rxOverrun]
      ∧ s.changesOnly t [.line, .peers, .inbox, .copies, .tallies, .flags]

/-- R63, R66, R69, R71, R73, R77, R78: an accepted HALT or STATUS of another station puts its id into the halt set or takes it out,
and the station state follows the set; its entry, the gap and the copy are those of every accepted frame. -/
def Obligations.HaltFramesHoldAndReleaseTheLine : Prop :=
  ∀ (f : WireFrame) (b : Body) (on : Bool) (s : State) (id : Fin 24), s.inReset = false →
    s.line.status = .receiving false → s.tx.attempt = none → acceptFrame f = some b →
    ((∃ cause, b = .halt on cause) ∨ (∃ x, b = .status x ∧ x.haltFlag = on)) → f.sender.toNat = id.val →
    f.sender ≠ s.strapId →
    let heard : Peer := { s.peers[id] with
      state := .live, lastSequence := f.sequence, lastHeard := s.line.tSof, haltFlag := on
      lossDue := some (s.line.tSof + BitVec.ofNat 32 (4 * s.record.beaconInterval)) }
    ∃ t, exec (.frameReceived f) s = .next t ∧ t.line = { s.line with status := .waiting }
      ∧ (∀ k : Nat, k < 24 → t.inHaltSet k = if k = id.val then on else s.inHaltSet k)
      ∧ (∀ cause, b = .halt on cause → t.peers[id] = heard)
      ∧ (∀ x, b = .status x → t.peers[id] = { heard with about := some x.about })
      ∧ (∀ i : Fin 24, i ≠ id → t.peers[i] = s.peers[i])
      ∧ s.countsGap t (s.peers[id]) f.sequence ∧ s.copied t f b.kind
      ∧ t.mode = (if s.mode = .setup then .setup else if t.haltSet = 0 then .run else .held)
      ∧ (s.mode = .run → t.haltSet ≠ 0 →
          t.openCount = 0 ∧ s.counts t .held 1 ∧ t.flagSet .held ∧ s.flagsOnly t [.gaps, .held]
          ∧ (s.tableSound → t.tracks = s.tracks.filter fun u => u.state ≠ .firing)
          ∧ s.changesOnly t [.line, .peers, .haltSet, .copies, .mode, .freeCount, .valves, .tracks, .tallies, .flags, .trace,
              .latest])
      ∧ ((s.mode ≠ .run ∨ t.haltSet = 0) →
          s.talliesOnly t [.gaps, .copyLoss] ∧ s.flagsOnly t [.gaps]
          ∧ s.changesOnly t [.line, .peers, .haltSet, .copies, .mode, .tallies, .flags])

/-- R78, R103, R161: entering HELD closes every open valve for its recovery, ends every FIRING track FIRED with SHORT, leaves the
other tracks, and raises HELD. The order in which the tracks end is free (log 4). -/
def Obligations.EnteringHeldStopsTheValves : Prop :=
  ∀ s : State, s.tableSound →
    let t := s.enterHeld
    let ending := s.tracks.filter fun u => u.state = .firing
    t.mode = .held ∧ t.tracks = s.tracks.filter (fun u => u.state ≠ .firing)
      ∧ (∀ i : Fin 32,
          ((s.valves[i]).isOpen = true → t.valves[i] = .resting (s.belt.timebase + BitVec.ofNat 32 s.record.recovery))
          ∧ ((s.valves[i]).isOpen = false → t.valves[i] = s.valves[i]))
      ∧ t.openCount = 0 ∧ s.counts t .held 1 ∧ t.flagSet .held ∧ s.flagsOnly t [.held]
      ∧ (∀ c, s.counts t (.fired c) (ending.countP fun u => u.cls = c))
      ∧ s.counts t .double (ending.countP Track.double)
      ∧ (∀ x, x ≠ .held → x ≠ .double → (∀ c, x ≠ .fired c) → t.tally x = s.tally x)
      ∧ (∃ entries : List TraceEntry, entries.Perm (ending.map Track.shortEntry)
          ∧ (s.trace.length ≤ 32 → t.trace = (s.trace ++ entries).drop (s.trace.length + entries.length - 32))
          ∧ (entries = [] → t.latest = s.latest)
          ∧ ∀ x, entries.getLast? = some x → t.latest = some { entry := x, isNew := true })
      ∧ s.changesOnly t [.mode, .freeCount, .valves, .tracks, .tallies, .flags, .trace, .latest]

/-- R74, R75, R77: HALT-ASSERT and HALT-RELEASE set and clear OPERATOR; at a change of the own halt the own id enters or leaves
the halt set, a HALT frame is offered and the station state follows. -/
def Obligations.OperatorHaltsAndReleases : Prop :=
  ∀ s : State, s.inReset = false → s.strapId.toNat < 24 →
    let touched : List Part := [.operatorHalt, .response, .outgoing, .haltSet, .peers, .tx, .line, .mode, .freeCount, .valves,
      .tracks, .tallies, .flags, .trace, .latest]
    (∃ t, exec .haltAssert s = .next t ∧ t.operatorHalt = true ∧ t.response = [0] ∧ t.outgoing = none ∧ t.ownHalt = true
      ∧ s.changesOnly t touched
      ∧ (s.ownHalt = false →
          (∀ k : Nat, k < 24 → t.inHaltSet k = (decide (k = s.strapId.toNat) || s.inHaltSet k))
          ∧ (s.mode = .run → t.mode = .held) ∧ (s.mode ≠ .run → t.mode = s.mode)
          ∧ (s.mode ≠ .setup → s.tx.mute = false → s.tx.urgent.length < 8 → s.line.status ≠ .idle →
              t.tx.urgent = s.tx.urgent ++ [{ content := .halt true .operator, errors := 0 }]))
      ∧ (s.ownHalt = true → s.changesOnly t [.operatorHalt, .response, .outgoing]))
    ∧ (∃ t, exec .haltRelease s = .next t ∧ t.operatorHalt = false ∧ t.response = [0] ∧ t.outgoing = none
        ∧ s.changesOnly t touched
        ∧ (s.ownHalt = true → t.ownHalt = false →
            (∀ k : Nat, k < 24 → t.inHaltSet k = (!decide (k = s.strapId.toNat) && s.inHaltSet k))
            ∧ (s.mode = .held → t.haltSet = 0 → t.mode = .run)
            ∧ (s.mode ≠ .setup → s.tx.mute = false → s.tx.urgent.length < 8 → s.line.status ≠ .idle →
                t.tx.urgent = s.tx.urgent ++ [{ content := .halt false .operator, errors := 0 }]))
        ∧ (s.ownHalt = t.ownHalt → s.changesOnly t [.operatorHalt, .response, .outgoing]))

/-- R76, with the station state of R77: where the station state follows the halt set, as it does after every step, CLEAR-HALT
changes the halt set, the response and the station state alone. -/
def Obligations.ClearHaltRemovesASilentPeer : Prop :=
  ∀ (id : Byte) (s : State), s.inReset = false →
    ((24 ≤ id.toNat ∨ id.toNat = s.strapId.toNat ∨ ∃ i : Fin 24, i.val = id.toNat ∧ (s.peers[i]).state = .live) →
      exec (.clearHalt id) s = .next (s.answered [1]))
    ∧ (∀ i : Fin 24, i.val = id.toNat → id.toNat ≠ s.strapId.toNat → (s.peers[i]).state ≠ .live →
        ∃ t, exec (.clearHalt id) s = .next t ∧ t.response = [0] ∧ t.outgoing = none ∧ t.peers = s.peers
          ∧ (∀ k : Nat, k < 24 → t.inHaltSet k = (!decide (k = id.toNat) && s.inHaltSet k))
          ∧ (s.mode = .held → t.haltSet = 0 → t.mode = .run)
          ∧ (s.haltSound →
              t.mode = (if s.mode = .setup then .setup else if t.haltSet = 0 then .run else .held)
              ∧ s.changesOnly t [.haltSet, .mode, .response, .outgoing])
          ∧ s.changesOnly t [.haltSet, .response, .outgoing, .mode, .freeCount, .valves, .tracks, .tallies, .flags, .trace,
              .latest])

/-! ## Monitor unit -/

/-- R74, R75, R80 to R84: at a fallen sample due time the eight levels are debounced, the conditions follow the accepted levels, a
change of the own halt moves the own id and offers its HALT frame with the cause that changed, in operation the watch is evaluated,
raising WATCH on leaving MATCHED and only then, and the next sample is due 1,000 microseconds on. AIR-LOW and CHUTE are raised when
their conditions turn bad and only then, HELD when the station enters HELD (R78) and only then. Which of DOOR and STOP is taken first
when both change is free (log 4), and HELD may then be left and entered again. -/
def Obligations.MonitorSampleDebouncesAndEvaluates : Prop :=
  ∀ (levels : Byte) (s : State), s.inReset = false → atOrBefore s.monitor.sampleDue s.belt.timebase →
    ∃ t, exec (.monitorSample levels) s = .next t
      ∧ t.monitor.sampleDue = s.monitor.sampleDue + 1000 ∧ t.monitor.lastSample = levels
      ∧ (∀ i : Nat, i < 8 → t.monitor.accepted.getLsbD i =
          if levels.getLsbD i = s.monitor.lastSample.getLsbD i then levels.getLsbD i else s.monitor.accepted.getLsbD i)
      ∧ t.conditionsSound
      ∧ t.flagSet .airLow = (s.flagSet .airLow || (!s.monitor.airLow && t.monitor.airLow))
      ∧ t.flagSet .chute = (s.flagSet .chute || (!s.monitor.chuteNotReady && t.monitor.chuteNotReady))
      ∧ (let matching := ∀ i : Nat, i < 8 → s.record.watchMask.getLsbD i = true →
          s.record.inputTrue t.monitor.accepted i = s.record.watchPattern.getLsbD i
        (s.mode = .setup → t.monitor.watch = s.monitor.watch)
        ∧ (s.mode ≠ .setup → matching → t.monitor.watch = .matched)
        ∧ (s.mode ≠ .setup → ¬ matching → s.monitor.watch = .matched →
            t.monitor.watch = .unmatched ∧ s.counts t .watch 1 ∧ t.flagSet .watch)
        ∧ (s.mode ≠ .setup → ¬ matching → s.monitor.watch ≠ .matched → t.monitor.watch = s.monitor.watch)
        ∧ (s.mode = .setup ∨ matching ∨ s.monitor.watch ≠ .matched →
            t.tally .watch = s.tally .watch ∧ t.flagSet .watch = s.flagSet .watch))
      ∧ (let both := t.monitor.doorOpen ≠ s.monitor.doorOpen ∧ t.monitor.stopRequested ≠ s.monitor.stopRequested
        (t.ownHalt = s.ownHalt → ¬ both →
          s.talliesOnly t [.watch] ∧ s.flagsOnly t [.airLow, .chute, .watch] ∧ s.changesOnly t [.monitor, .tallies, .flags])
        ∧ (s.mode = .setup → t.tallies = s.tallies ∧ s.flagsOnly t [.airLow, .chute]
            ∧ s.changesOnly t [.monitor, .haltSet, .freeCount, .flags])
        ∧ (s.mode = .run → t.mode = .held → s.counts t .held 1 ∧ t.flagSet .held)
        ∧ (s.mode ≠ .run ∨ t.mode ≠ .held → ¬ both → t.tally .held = s.tally .held ∧ t.flagSet .held = s.flagSet .held)
        ∧ ((t.tally .held = s.tally .held ∧ t.flagSet .held = s.flagSet .held)
            ∨ (s.counts t .held 1 ∧ t.flagSet .held ∧ s.mode ≠ .setup ∧ t.mode = .held)))
      ∧ (t.ownHalt ≠ s.ownHalt →
          ∀ k : Nat, k < 24 → t.inHaltSet k = if k = s.strapId.toNat then t.ownHalt else s.inHaltSet k)
      ∧ (s.takesOffers → t.ownHalt ≠ s.ownHalt → ∃ cause,
          t.tx = { s.tx with urgent := s.tx.urgent ++ [{ content := .halt t.ownHalt cause, errors := 0 }] }
            ∧ ((cause = .door ∧ t.monitor.doorOpen ≠ s.monitor.doorOpen)
                ∨ (cause = .stop ∧ t.monitor.stopRequested ≠ s.monitor.stopRequested))
            ∧ t.tally .urgentDrop = s.tally .urgentDrop ∧ t.tally .muteDrop = s.tally .muteDrop)
      ∧ s.flagsOnly t [.airLow, .chute, .watch, .held]
      ∧ (∀ x, x ∉ [Tally.watch, .held, .urgentDrop, .muteDrop, .double] → (∀ c, x ≠ .fired c) → t.tally x = s.tally x)
      ∧ s.changesOnly t [.monitor, .haltSet, .peers, .tx, .line, .mode, .freeCount, .valves, .tracks, .tallies, .flags,
          .trace, .latest]

/-! ## Sightings at the track table -/

/-- R87, R90, R91, R98, R99, R101: a sighting in the window, with its A_lead ahead, that matches no track makes a COLLECTING track
with the values of Table 5-1, in its place in the table; with its verdict count at or before the current count it is judged at
once. -/
def Obligations.SightingMakesATrack : Prop :=
  ∀ (s s1 : State) (c : Instr) (e : Evidence), s.takesSighting c e s1 → s.tableSound → s.windowHolds e →
    e.sensorLine < s.record.beltHead → ahead (s.leadOf e) s.belt.count →
    (∀ u ∈ s.tracks, ¬ s.sightingMeets e u) → s.tracks.length < 64 →
    let verdict := s.leadOf e - BitVec.ofNat 24 s.record.verdictDistance
    ∃ x front back, s.tracks = front ++ back
      ∧ (∀ u ∈ front, standsBefore s.belt.count x u = false) ∧ (∀ u, back.head? = some u → standsBefore s.belt.count x u = true)
      ∧ x.made = s.nextMade ∧ x.anchorId = e.anchorId ∧ x.anchorSerial = e.anchorSerial
      ∧ x.aLead = s.leadOf e ∧ x.aTrail = s.trailOf e ∧ x.laneFirst = e.laneFirst ∧ x.laneLast = e.laneLast
      ∧ (∀ k, x.scores.of k = if k = e.hint then min 65535 (s.record.weight e.kind e.hint * e.strength) else 0)
      ∧ x.state = .collecting ∧ x.cls = .unknown ∧ x.mark = none ∧ x.flight = none ∧ x.valveSet = none
      ∧ x.degraded = false ∧ x.oversize = false ∧ x.trimmed = false ∧ x.double = false ∧ x.short = false
      ∧ (let s2 := { s1 with tracks := front ++ x :: back, nextMade := s.nextMade + 1 }
         (ahead verdict s.belt.count → exec c s = .next s2)
         ∧ (atOrBefore verdict s.belt.count → exec c s = .next (s2.judge x)))

/-- R91, R92, R94, R100: the sightings that change no track: outside the window, past the belt head, late, met by tracks past
COLLECTING alone, or finding a full table. -/
def Obligations.SightingsThatChangeNoTrack : Prop :=
  ∀ (s s1 : State) (c : Instr) (e : Evidence), s.takesSighting c e s1 →
    (¬ s.windowHolds e → exec c s = .next s1)
    ∧ (s.windowHolds e → s.record.beltHead ≤ e.sensorLine → exec c s = .next (s1.bump .badGeometry))
    ∧ (s.windowHolds e → e.sensorLine < s.record.beltHead →
        (atOrBefore (s.leadOf e) s.belt.count → exec c s = .next (s1.bump .late))
        ∧ (ahead (s.leadOf e) s.belt.count → (∃ u ∈ s.tracks, s.sightingMeets e u) →
            (∀ u ∈ s.tracks, s.sightingMeets e u → u.state ≠ .collecting) → exec c s = .next (s1.bump .late))
        ∧ (ahead (s.leadOf e) s.belt.count → (∀ u ∈ s.tracks, ¬ s.sightingMeets e u) → 64 ≤ s.tracks.length →
            exec c s = .next ((s1.bump .trackFull).raise .trackFull)))

/-- R87, R94 to R98, R101: a sighting joins the earliest of the COLLECTING tracks it matches, the others are absorbed into it, no
other track changes, and the table stays in order. The anchor is that of the one of them whose A_lead is earliest in modular order,
with equal A_lead the one of lower anchor id, then of lower serial. With its verdict count at or before the current count the joined
track is judged at once. -/
def Obligations.SightingJoinsItsTracks : Prop :=
  ∀ (s s1 : State) (c : Instr) (e : Evidence) (u : Track) (others : List Track), s.takesSighting c e s1 → s.tableSound →
    s.windowHolds e → e.sensorLine < s.record.beltHead → ahead (s.leadOf e) s.belt.count →
    (u :: others).Sublist s.tracks → (∀ v ∈ s.tracks, v ∈ u :: others ↔ v.state = .collecting ∧ s.sightingMeets e v) →
    ∃ j ts, j ∈ ts ∧ j.made = u.made ∧ ts.length + others.length = s.tracks.length
      ∧ (∀ v, v ≠ j → (v ∈ ts ↔ v ∈ s.tracks ∧ v ∉ u :: others))
      ∧ j.aLead = others.foldl (fun a v => earlier a v.aLead) (earlier u.aLead (s.leadOf e))
      ∧ j.aTrail = others.foldl (fun a v => later a v.aTrail) (later u.aTrail (s.trailOf e))
      ∧ j.laneFirst = others.foldl (fun a v => min a v.laneFirst) (min u.laneFirst e.laneFirst)
      ∧ j.laneLast = others.foldl (fun a v => max a v.laneLast) (max u.laneLast e.laneLast)
      ∧ (∀ k, k ≠ .unknown → j.scores.of k = min 65535 (((u :: others).map fun v => v.scores.of k).sum
          + if k = e.hint then s.record.weight e.kind e.hint * e.strength else 0))
      ∧ j.mark = (u :: others).findSome? Track.mark
      ∧ (let first := fun (a b : Count × Nat × Byte) =>
           if b.1 = a.1 then (if b.2.1 < a.2.1 ∨ (b.2.1 = a.2.1 ∧ b.2.2.toNat < a.2.2.toNat) then b else a)
           else if atOrBefore b.1 a.1 then (earlier a.1 b.1, b.2) else (earlier a.1 b.1, a.2)
         (j.aLead, j.anchorId, j.anchorSerial) =
           others.foldl (fun a v => first a (v.aLead, v.anchorId, v.anchorSerial))
             (first (u.aLead, u.anchorId, u.anchorSerial) (s.leadOf e, e.anchorId, e.anchorSerial)))
      ∧ j.state = .collecting ∧ j.cls = u.cls ∧ j.flight = u.flight ∧ j.degraded = u.degraded ∧ j.oversize = u.oversize
      ∧ (let s2 := { s1 with tracks := ts }
         let verdict := j.aLead - BitVec.ofNat 24 s.record.verdictDistance
         (s.tableOrdered → s2.tableOrdered)
         ∧ (ahead verdict s.belt.count → exec c s = .next s2)
         ∧ (atOrBefore verdict s.belt.count → exec c s = .next (s2.judge j)))

/-! ## Verdicts -/

/-- R108: the class that the scores give to a track without a pending mark; the scores stay. -/
def Obligations.ScoresGiveTheClass : Prop :=
  ∀ (s : State) (u : Track), u.mark = none → 1 ≤ s.record.margin →
    let accepted := fun c : PieceClass => c ≠ .unknown ∧ s.record.threshold ≤ u.scores.of c
      ∧ ∀ d, d ≠ c → d ≠ .unknown → u.scores.of d + s.record.margin ≤ u.scores.of c
    (∀ c, accepted c → (s.judged u).cls = c) ∧ ((∀ c, ¬ accepted c) → (s.judged u).cls = .unknown)
      ∧ (s.judged u).scores = u.scores

/-- R109 to R115: a pending mark gives the class and goes; lost coverage, length, target set and rescue decide the state and the
flags in turn; a track left ARMED across the window's edge offers a CLAIM. -/
def Obligations.VerdictSetsStateAndClaim : Prop :=
  ∀ (s : State) (u : Track),
    let j := s.judged u
    let uncovered := ∃ i : Fin 24, ∃ d, (s.peers[i]).state = .lost ∧ (s.peers[i]).about = some d ∧ d.role ≠ .eject
      ∧ d.laneBase ≤ u.laneLast ∧ u.laneFirst ≤ d.laneBase + d.laneCount - 1
    let length := (u.aTrail - u.aLead).toNat + 1
    (∀ c, u.mark = some (.claimed c) ∨ u.mark = some (.rescue c) → j.cls = c) ∧ j.mark = none
      ∧ j = { u with cls := j.cls, mark := j.mark, state := j.state, degraded := j.degraded, oversize := j.oversize }
      ∧ (uncovered → j.degraded = true ∧ j.oversize = u.oversize ∧ j.state = if s.record.sweep then .armed else .watching)
      ∧ (¬ uncovered → s.record.maxEjectLength < length →
          j.degraded = u.degraded ∧ j.oversize = true ∧ j.state = .watching)
      ∧ (¬ uncovered → length ≤ s.record.maxEjectLength → j.degraded = u.degraded ∧ j.oversize = u.oversize
          ∧ ((s.record.isTarget j.cls = true ∨ ∃ c, u.mark = some (.rescue c)) → j.state = .armed)
          ∧ (s.record.isTarget j.cls = false → (∀ c, u.mark ≠ some (.rescue c)) → j.state = .watching))
      ∧ ((j.state = .watching ∨ (s.record.laneBase ≤ u.laneFirst ∧ u.laneLast < s.record.laneBase + s.record.laneCount)) →
          s.judge u = s.updateTrack u.made fun _ => j)
      ∧ (j.state = .armed → (u.laneFirst < s.record.laneBase ∨ s.record.laneBase + s.record.laneCount ≤ u.laneLast) →
          (s.judge u).tracks = s.tracks.map (fun v => if v.made = u.made then j else v)
          ∧ s.changesOnly (s.judge u) [.tracks, .tx, .line, .tallies]
          ∧ (s.takesOffers → (s.judge u).tx.urgent = s.tx.urgent ++ [{ content := .claim (s.frameValues j), errors := 0 }]))

/-! ## Launch and flight -/

/-- R139 to R142: the flight distance, t_open, the duration and its clamps. -/
def Obligations.FlightTimesFollowTheMeasure : Prop :=
  ∀ (r : Record) (u : Track) (launch : Time) (delta : Nat),
    let distanceOf := max 0 (min 1023 ((r.flightDistance : Int) + (r.byte (35 + u.cls.code)).toInt))
    let raw := (min 4095 ((u.aTrail - u.aLead).toNat + 1) + r.leadMargin + r.trailMargin) * delta / 16
    let f := r.flightOf u launch delta
    ((r.openDistance u.cls : Nat) : Int) = max 0 (distanceOf - r.leadMargin)
      ∧ f.launchTime = launch ∧ f.delta = delta
      ∧ f.tOpen = launch + BitVec.ofNat 32 (r.openDistance u.cls * delta / 16)
      ∧ (r.minPulse ≤ r.maxOpen →
          (f.tClose - f.tOpen).toNat = max r.minPulse (min r.maxOpen raw)
            ∧ (r.trims ((u.aTrail - u.aLead).toNat + 1) delta = true ↔ r.maxOpen < raw))

/-- R102, R135: at an advance the tracks that have reached their counts are judged or launched one after another, in table order,
each whole before the next; R136 to R138: a launch without a valid measure or at a full flight list ends the track, and any other
puts it in flight; a t_open already reached falls due at once (R9, R140, R145, R146). That a COLLECTING track is not looked at for
its launch count is the model's reading (log 22): its verdict comes at least 50 counts before. -/
def Obligations.LaunchesFollowTheMeasure : Prop :=
  ∀ (s : State) (stamp : Time), s.tableSound →
    (∀ reached : List Track, reached.Sublist s.tracks →
      (∀ v ∈ s.tracks, v ∈ reached ↔
        (v.state = .collecting ∧ v.aLead - BitVec.ofNat 24 s.record.verdictDistance = s.belt.count)
          ∨ ((v.state = .armed ∨ v.state = .watching) ∧ v.aLead = s.belt.count)) →
      s.beltEvents stamp = reached.foldl (fun x v =>
        if v.state = .collecting then x.judge v
        else if v.state = .armed then x.launchArmed v stamp s.belt.measure
        else x.launchWatching v stamp s.belt.measure) s)
    ∧ ∀ u ∈ s.tracks,
    (∀ measure reason, (reason = .speed ∧ ∀ d, measure = some d → 160000 < d.toNat)
            ∨ (reason = .queue ∧ (∃ d, measure = some d ∧ d.toNat ≤ 160000) ∧ 24 ≤ s.tracks.countP Track.inFlight) →
        s.endedWith (s.launchArmed u stamp measure) u (.missed reason)
        ∧ s.changesOnly (s.launchArmed u stamp measure) [.tracks, .tallies, .trace, .latest, .tx, .line]
        ∧ (s.takesOffers → (s.launchArmed u stamp measure).tx.urgent =
            s.tx.urgent ++ [{ content := .missed reason (s.frameValues u), errors := 0 }])
        ∧ s.endedWith (s.launchWatching u stamp measure) u .passed
        ∧ s.changesOnly (s.launchWatching u stamp measure) [.tracks, .tallies, .trace, .latest])
    ∧ (∀ d : Time, d.toNat ≤ 160000 → s.tracks.countP Track.inFlight < 24 →
        let delta := max 2666 d.toNat
        let f := s.record.flightOf u stamp delta
        let trims := s.record.trims ((u.aTrail - u.aLead).toNat + 1) delta
        let flown : TrackState → State := fun x => s.updateTrack u.made fun v =>
          { v with state := x, flight := some f, trimmed := v.trimmed || trims }
        (ahead f.tOpen s.belt.timebase →
          s.launchArmed u stamp (some d) = flown .launched ∧ s.launchWatching u stamp (some d) = flown .coasting)
        ∧ (atOrBefore f.tOpen s.belt.timebase →
            s.launchArmed u stamp (some d) = (flown .launched).request u.made
            ∧ (flown .coasting).endedWith (s.launchWatching u stamp (some d))
                { u with state := .coasting, flight := some f, trimmed := u.trimmed || trims } .passed
            ∧ s.changesOnly (s.launchWatching u stamp (some d)) [.tracks, .tallies, .trace, .latest]))

/-! ## Valve bank -/

/-- R9, R145, R152 to R154: a LAUNCHED track that makes its request with no ground for refusal becomes FIRING; its valves open or are
extended, and its FIRED frame is offered. A close-at already reached falls due at once, and the track whose t_close is already
reached ends FIRED at once. T_OPEN_DUE works the request of the one track fallen due. -/
def Obligations.GrantFiresTheTrack : Prop :=
  ∀ (s : State) (u : Track) (f : Flight) (set : List (Fin 32)), s.tableSound → u ∈ s.tracks →
    u.state = .launched → u.flight = some f → set.Nodup → (∀ i, i ∈ set ↔ s.inFiringSet u i) →
    let now := s.belt.timebase
    let new := set.countP fun i => (s.valves[i]).isClosed
    let shared := set.countP fun i => (s.valves[i]).isOpen
    let budget := if s.monitor.airLow then s.record.budgetLow else s.record.budget
    let standing : Time → Time → Valve := fun openedAt closeAt =>
      if atOrBefore closeAt now then .resting (now + BitVec.ofNat 32 s.record.recovery) else .opened openedAt closeAt
    let cap : Time → Time := fun openedAt => earlier f.tClose (openedAt + BitVec.ofNat 32 s.record.maxOpen)
    s.mode ≠ .held → s.monitor.chuteNotReady = false → set ≠ [] → (set.length + 1) / 2 ≤ shared + new →
    s.openCount + new ≤ budget →
    let t := s.request u.made
    (s.inReset = false → atOrBefore f.tOpen now → (∀ v ∈ s.tracks, v ≠ u → s.openDue v = false) →
        exec .tOpenDue s = .next t)
    ∧ ∃ (granted : List (Fin 32)) (fired : State), (∀ i, i ∈ granted ↔ i ∈ set ∧ ((s.valves[i]).isOpen ∨ (s.valves[i]).isClosed))
      ∧ fired = { s with
          tracks := s.tracks.map (fun v => if v.made = u.made then { v with state := .firing, valveSet := some granted } else v)
          valves := t.valves }
      ∧ (∀ i : Fin 32, i ∉ set → t.valves[i] = s.valves[i])
      ∧ (∀ i ∈ set, s.valves[i] = .closed → t.valves[i] = standing now (cap now))
      ∧ (∀ i ∈ set, ∀ o c, s.valves[i] = .opened o c → t.valves[i] = standing o (later c (cap o)))
      ∧ (∀ i ∈ set, ∀ r, s.valves[i] = .resting r → t.valves[i] = .resting r)
      ∧ t.openCount ≤ budget
      ∧ (ahead f.tClose now → t = fired.offer (.fired (s.frameValues u)))
      ∧ (atOrBefore f.tClose now → (fired.offer (.fired (s.frameValues u))).endedWith t u .fired
          ∧ (fired.offer (.fired (s.frameValues u))).talliesOnly t [.fired u.cls]
          ∧ (fired.offer (.fired (s.frameValues u))).changesOnly t [.tracks, .tallies, .trace, .latest])
      ∧ (s.takesOffers →
          t.tx = { s.tx with urgent := s.tx.urgent ++ [{ content := .fired (s.frameValues u), errors := 0 }] }
          ∧ t.line = s.line
          ∧ (ahead f.tClose now → t.tracks = fired.tracks ∧ s.changesOnly t [.tracks, .valves, .tx])
          ∧ (atOrBefore f.tClose now → s.endedWith t u .fired ∧ s.talliesOnly t [.fired u.cls]
              ∧ s.changesOnly t [.tracks, .valves, .tx, .tallies, .trace, .latest]))
      ∧ s.changesOnly t [.tracks, .valves, .tx, .line, .tallies, .trace, .latest]

/-- R153: the grounds on which the request of a LAUNCHED track is refused, in their order; the refused track ends MISSED and offers
its frame, and no valve changes. T_OPEN_DUE works the request of the one track fallen due. -/
def Obligations.RefusedTracksEndMissed : Prop :=
  ∀ (s : State) (u : Track) (f : Flight) (set : List (Fin 32)) (reason : MissReason), s.tableSound →
    u ∈ s.tracks → u.state = .launched → u.flight = some f → set.Nodup → (∀ i, i ∈ set ↔ s.inFiringSet u i) →
    let new := set.countP fun i => (s.valves[i]).isClosed
    let shared := set.countP fun i => (s.valves[i]).isOpen
    (if s.mode = .held then reason = .halt
      else if s.monitor.chuteNotReady then reason = .chute
      else if set.length = 0 ∨ shared + new < (set.length + 1) / 2 then reason = .recover
      else reason = .air ∧ (if s.monitor.airLow then s.record.budgetLow else s.record.budget) < s.openCount + new) →
    let t := s.request u.made
    (s.inReset = false → atOrBefore f.tOpen s.belt.timebase → (∀ v ∈ s.tracks, v ≠ u → s.openDue v = false) →
        exec .tOpenDue s = .next t)
    ∧ s.endedWith t u (.missed reason)
    ∧ (∃ missed, s.endedWith missed u (.missed reason) ∧ s.talliesOnly missed [.missed]
        ∧ s.changesOnly missed [.tracks, .tallies, .trace, .latest]
        ∧ t = missed.offer (.missed reason (s.frameValues u)))
    ∧ (s.takesOffers →
        t.tx = { s.tx with urgent := s.tx.urgent ++ [{ content := .missed reason (s.frameValues u), errors := 0 }] }
        ∧ t.line = s.line ∧ s.talliesOnly t [.missed])
    ∧ s.changesOnly t [.tracks, .tallies, .trace, .latest, .tx, .line]

/-- R155: the LAUNCHED tracks whose t_open has fallen due are worked one after another; those of one t_open by class rank, then by
A_lead, then by age. That one T_OPEN_DUE works every track fallen due, whatever its t_open, is the model's reading (log 24). -/
def Obligations.RequestsGoByRankThenPlace : Prop :=
  ∀ s : State, s.inReset = false →
    ∃ order : List Track, order.Perm (s.tracks.filter s.openDue)
      ∧ exec .tOpenDue s = .next (order.foldl (fun x u => x.request u.made) s)
      ∧ order.Pairwise fun a b => ∀ f g, a.flight = some f → b.flight = some g → f.tOpen = g.tOpen →
          s.record.classRank b.cls < s.record.classRank a.cls
          ∨ (s.record.classRank a.cls = s.record.classRank b.cls
              ∧ (distance s.belt.count a.aLead < distance s.belt.count b.aLead
                  ∨ (distance s.belt.count a.aLead = distance s.belt.count b.aLead ∧ a.made ≤ b.made)))

/-- R146, R158: a COASTING track ends PASSED at its t_open, a FIRING one FIRED at its t_close, no valve changing; R156, R157: an
OPEN valve rests from its close-at on, and is CLOSED again at its recover-until, no track changing. -/
def Obligations.FlightsEndAndValvesRestAtTheirTimes : Prop :=
  ∀ s : State, s.inReset = false →
    (∀ u ∈ s.tracks, ∀ f, s.tableSound → u.flight = some f →
      (u.state = .coasting → atOrBefore f.tOpen s.belt.timebase →
        ∃ t, exec (.coastingTOpen u.made) s = .next t ∧ s.endedWith t u .passed
          ∧ s.changesOnly t [.tracks, .tallies, .trace, .latest])
      ∧ (u.state = .firing → atOrBefore f.tClose s.belt.timebase →
        ∃ t, exec (.tCloseDue u.made) s = .next t ∧ s.endedWith t u .fired
          ∧ s.counts t .double (if u.double then 1 else 0) ∧ s.changesOnly t [.tracks, .tallies, .trace, .latest]))
    ∧ (∀ (i : Fin 32) (o c : Time), s.valves[i] = .opened o c → atOrBefore c s.belt.timebase →
        ∃ t, exec (.closeAtDue i) s = .next t
          ∧ t.valves[i] = .resting (s.belt.timebase + BitVec.ofNat 32 s.record.recovery)
          ∧ (∀ k : Fin 32, k ≠ i → t.valves[k] = s.valves[k]) ∧ t.openCount + 1 = s.openCount ∧ s.changesOnly t [.valves])
    ∧ (∀ (i : Fin 32) (r : Time), s.valves[i] = .resting r → atOrBefore r s.belt.timebase →
        ∃ t, exec (.recoverUntilDue i) s = .next t ∧ t.valves[i] = .closed
          ∧ (∀ k : Fin 32, k ≠ i → t.valves[k] = s.valves[k]) ∧ t.openCount = s.openCount ∧ s.changesOnly t [.valves])

/-! ## Curtain coordination -/

/-- R119, R122 to R125: a CLAIM of another curtain is discarded; one that finds no track counts UNMATCHED; on the track it finds it
has the effect of Table 7-2. -/
def Obligations.ClaimTakenFollowsItsTable : Prop :=
  ∀ (s : State) (sender : Nat) (o : OutcomeBody) (cSof : Count) (tSof : Time) (rest : List InboxEntry), s.inReset = false →
    s.mode ≠ .setup → s.inbox = ⟨sender, .claim o, cSof, tSof⟩ :: rest →
    let s1 := { s with inbox := rest }
    (o.curtain ≠ s.record.curtain → exec .claimTaken s = .next s1)
    ∧ (o.curtain = s.record.curtain →
        (s.frameFindsNone o cSof → exec .claimTaken s = .next (s1.bump .unmatched))
        ∧ ∀ u, s.tableSound → s.frameFinds o cSof u →
          (u.state = .collecting → exec .claimTaken s = .next (s1.updateTrack u.made fun v =>
            { v with mark := match v.mark with
                | some (.rescue d) => some (.rescue d)
                | some (.claimed _) | none => some (.claimed o.cls) }))
          ∧ (u.state = .watching → s.record.isTarget o.cls = true → exec .claimTaken s =
              .next ((s1.updateTrack u.made fun v => { v with state := .armed, cls := o.cls }).bump .claimAdopt))
          ∧ (u.state = .watching ∨ u.state = .coasting → s.record.isTarget o.cls = false → exec .claimTaken s = .next s1)
          ∧ (u.state = .coasting → s.record.isTarget o.cls = true → ∀ f, u.flight = some f →
              let tOpen := f.launchTime + BitVec.ofNat 32 (s.record.openDistance o.cls * f.delta / 16)
              (ahead tOpen s.belt.timebase → exec .claimTaken s = .next ((s1.updateTrack u.made fun v =>
                { v with state := .launched, cls := o.cls
                         flight := some { f with tOpen := tOpen, tClose := tOpen + (f.tClose - f.tOpen) } }).bump .claimAdopt))
              ∧ (atOrBefore tOpen s.belt.timebase → exec .claimTaken s = .next (s1.bump .claimLate)))
          ∧ (u.state = .armed ∨ u.state = .launched →
              (u.cls = o.cls → exec .claimTaken s = .next s1)
              ∧ (u.cls ≠ o.cls → exec .claimTaken s = .next (s1.bump .disagree)))
          ∧ (u.state = .firing → exec .claimTaken s = .next (s1.bump .claimLate)))

/-- R119, R126 to R128: a FIRED from no upstream curtain is discarded; one that finds no track counts UNMATCHED; the track it finds
ends TAKEN, or, while FIRING, carries DOUBLE. -/
def Obligations.FiredTakenFollowsItsTable : Prop :=
  ∀ (s : State) (sender : Nat) (o : OutcomeBody) (cSof : Count) (tSof : Time) (rest : List InboxEntry), s.inReset = false →
    s.mode ≠ .setup → s.inbox = ⟨sender, .fired o, cSof, tSof⟩ :: rest →
    let s1 := { s with inbox := rest }
    (s.record.curtain ≤ o.curtain → exec .firedTaken s = .next s1)
    ∧ (o.curtain < s.record.curtain →
        (s.frameFindsNone o cSof → exec .firedTaken s = .next (s1.bump .unmatched))
        ∧ ∀ u, s.tableSound → s.frameFinds o cSof u →
          (u.state ≠ .firing → ∃ t, exec .firedTaken s = .next t ∧ s1.endedWith t u .taken
            ∧ s1.changesOnly t [.tracks, .tallies, .trace, .latest])
          ∧ (u.state = .firing →
              exec .firedTaken s = .next (s1.updateTrack u.made fun v => { v with double := true })))

/-- R119, R125, R129, R130: a MISSED from no upstream curtain, or of a class outside the rescue set, is discarded; one that finds no
track counts UNMATCHED; on the track it finds it has the effect of Table 7-4. -/
def Obligations.MissedTakenFollowsItsTable : Prop :=
  ∀ (s : State) (sender : Nat) (reason : MissReason) (o : OutcomeBody) (cSof : Count) (tSof : Time) (rest : List InboxEntry),
    s.inReset = false → s.mode ≠ .setup → s.inbox = ⟨sender, .missed reason o, cSof, tSof⟩ :: rest →
    let s1 := { s with inbox := rest }
    (s.record.curtain ≤ o.curtain ∨ s.record.isRescue o.cls = false → exec .missedTaken s = .next s1)
    ∧ (o.curtain < s.record.curtain → s.record.isRescue o.cls = true →
        (s.frameFindsNone o cSof → exec .missedTaken s = .next (s1.bump .unmatched))
        ∧ ∀ u, s.tableSound → s.frameFinds o cSof u →
          (u.state = .collecting → exec .missedTaken s =
              .next (s1.updateTrack u.made fun v => { v with mark := some (.rescue o.cls) }))
          ∧ (u.state = .watching → exec .missedTaken s =
              .next ((s1.updateTrack u.made fun v => { v with state := .armed, cls := o.cls }).bump .rescue))
          ∧ (u.state = .coasting → ∀ f, u.flight = some f →
              let tOpen := f.launchTime + BitVec.ofNat 32 (s.record.openDistance o.cls * f.delta / 16)
              (ahead tOpen s.belt.timebase → exec .missedTaken s = .next ((s1.updateTrack u.made fun v =>
                { v with state := .launched, cls := o.cls
                         flight := some { f with tOpen := tOpen, tClose := tOpen + (f.tClose - f.tOpen) } }).bump .rescue))
              ∧ (atOrBefore tOpen s.belt.timebase → exec .missedTaken s = .next (s1.bump .rescueLate)))
          ∧ (u.state = .armed ∨ u.state = .launched ∨ u.state = .firing → exec .missedTaken s = .next s1))

/-! ## Station port -/

/-- R20, R67, R86, R103, R106, R144, R149, R164, R166, R168, R171, R176, R178, R179, R182: what the reading commands answer; they
change the response alone. Each value of READ-STATE, READ-PEERS, READ-FLAGS and READ-TALLIES is formed at its own moment. The model's
choice (log 13): the moments come as waits with the command; with no wait all are formed from the one state; a wait leaves the rest
to be formed from the state that stands when it has passed. That the bits of a response which its table does not name are 0 is the
model's choice too (log 30). -/
def Obligations.ReadsAnswerTheState : Prop :=
  ∀ s : State,
    (s.inReset = false →
      exec .readIdent s = .next (s.answered [0, 164, 1, BitVec.ofNat 8 s.strapId.toNat])
      ∧ exec .readConfig s = .next (s.answered (0 :: s.record.bytes.toList))
      ∧ exec .readTrace s =
          .next (s.answered (0 :: BitVec.ofNat 8 s.trace.length :: s.trace.flatMap TraceEntry.bytes))
      ∧ ∀ waits : List Nat,
          exec (.readState waits) s = .next ((s.answered [0]).goOn stateValues waits)
          ∧ exec (.readPeers waits) s = .next ((s.answered [0]).goOn peerValues waits)
          ∧ exec (.readTallies waits) s = .next ((s.answered [0]).goOn tallyValues waits)
          ∧ exec (.readFlags waits) s = .next ((s.answered [0]).goOn [.flags] waits))
    ∧ stateValues.flatMap s.valueBytes = s.bytes0 ++ s.bytes31 ++ s.bytes38
    ∧ (stateValues.map fun v => (s.valueBytes v).length) =
        [1, 3, 4, 1, 3, 1, 1, 1, 1] ++ [1, 1, 1, 1, 1, 1, 1, 1, 3, 4] ++ [3, 1, 1, 1, 1] ++ [1, 1, 1, 1, 1, 1, 1, 1, 4]
          ++ [1, 1, 1, 1, 1, 1, 1, 1, 1, 1, 1]
    ∧ peerValues.flatMap s.valueBytes = (List.finRange 24).flatMap s.peerBytes
    ∧ (peerValues.map fun v => (s.valueBytes v).length) =
        ((List.finRange 24).flatMap fun _ => [1, 1, 1, 1, 2, 1, 1, 4])
    ∧ tallyValues = (List.finRange 43).map PortValue.tally
    ∧ (∀ x : Tally, s.valueBytes (.tally x.index) = bigEndian 4 (s.tally x).toNat)
    ∧ s.valueBytes .flags = bigEndian 2 s.flags.toNat
    ∧ (∀ (values : List PortValue) (waits : List Nat), (∀ w ∈ waits, w = 0) →
        s.goOn values waits = { s with response := s.response ++ values.flatMap s.valueBytes, outgoing := none })
    ∧ (∀ (values : List PortValue) (k w : Nat) (rest : List Nat), k < values.length →
        s.goOn values (List.replicate k 0 ++ (w + 1) :: rest) =
          { s with
            response := s.response ++ (values.take k).flatMap s.valueBytes
            outgoing := some { values := values.drop k, waits := rest
                               due := s.belt.timebase + BitVec.ofNat 32 (w + 1) } })
    ∧ (∀ o, s.outgoing = some o → atOrBefore o.due s.belt.timebase → s.formValue = s.goOn o.values (0 :: o.waits))
    ∧ (s.flightList.Perm (s.tracks.filterMap fun t => t.nextDue.map fun due => { due := due, track := t.made })
        ∧ s.flightList.Pairwise fun a b => distance s.belt.timebase a.due ≤ distance s.belt.timebase b.due)

/-- R166, Table 10-1: the command that the bytes of a transaction give, none being taken before its last argument byte, and bytes
clocked in after that being ignored; R103, R167, R176, R178, R180, R181: clearing flags and tallies, taking the latest slot and a copy,
a command byte outside Table 10-1, and an abandoned transaction. That bits 7..2 of READ-LATEST's marks, and the bits of its entry that
Table 10-6 does not name, are 0 is the model's choice (log 30). -/
def Obligations.ClearsAndTakesActAtOnce : Prop :=
  (∀ (more : List Byte) (waits : List Nat),
    let bare : List (Byte × Instr) :=
      [(1, .readIdent), (3, .readConfig), (4, .start), (5, .restart), (6, .readState waits), (7, .readFlags waits),
       (9, .readTallies waits), (10, .clearTallies), (11, .haltAssert), (12, .haltRelease), (14, .readPeers waits),
       (15, .readTrace), (16, .readLatest), (17, .readCopy)]
    (∀ p ∈ bare, transactionCommand (p.1 :: more) waits = p.2)
    ∧ (∀ offset count data, data.length = count.toNat →
        transactionCommand (2 :: offset :: count :: (data ++ more)) waits = .writeConfig offset count data)
    ∧ (∀ high low : Byte, transactionCommand (8 :: high :: low :: more) waits = .clearFlags (high ++ low))
    ∧ (∀ id, transactionCommand (13 :: id :: more) waits = .clearHalt id)
    ∧ (∀ code : Byte, code.toNat = 0 ∨ 17 < code.toNat → transactionCommand (code :: more) waits = .unknownCommand code)
    ∧ transactionCommand [] waits = .transactionAbandon
    ∧ transactionCommand [13] waits = .transactionAbandon
    ∧ (more.length < 2 → transactionCommand (2 :: more) waits = .transactionAbandon
        ∧ transactionCommand (8 :: more) waits = .transactionAbandon)
    ∧ (∀ offset count, more.length < count.toNat →
        transactionCommand (2 :: offset :: count :: more) waits = .transactionAbandon))
  ∧ ∀ s : State, s.inReset = false →
    (∀ mask, ∃ t, exec (.clearFlags mask) s = .next t ∧ t.response = [0] ∧ t.outgoing = none
      ∧ s.changesOnly t [.flags, .response, .outgoing]
      ∧ ∀ f : Flag, t.flagSet f = (s.flagSet f && !mask.getLsbD f.bit.val))
    ∧ (∃ t, exec .clearTallies s = .next t ∧ t.response = [0] ∧ t.outgoing = none ∧ (∀ x, t.tally x = 0)
        ∧ s.changesOnly t [.tallies, .response, .outgoing])
    ∧ (s.latest = none → exec .readLatest s = .next (s.answered (0 :: List.replicate 14 0)))
    ∧ (∀ l, s.latest = some l → exec .readLatest s =
        .next ({ s with latest := some { l with isNew := false } }.answered
          (0 :: (if l.isNew then 3 else 1) :: l.entry.bytes)))
    ∧ (s.copies = [] → exec .readCopy s = .next (s.answered (0 :: List.replicate 25 0)))
    ∧ (∀ c rest, s.copies = c :: rest → exec .readCopy s =
        .next ({ s with copies := rest }.answered (0 :: BitVec.ofNat 8 (rest.length + 1) :: c.bytes)))
    ∧ (∀ code : Byte, code.toNat = 0 ∨ 17 < code.toNat → exec (.unknownCommand code) s = .next (s.answered [2]))
    ∧ exec .transactionAbandon s = .next { s with outgoing := none }

/-- R5, R81, R166, R169 to R171: WRITE-CONFIG abandoned before its last byte has no effect; it is refused in operation; in SETUP its
bytes are written and every field touched is brought into its range, the fields it does not touch stay but for the two agreements,
the accumulator and the monitor conditions follow the record, and through them, when an input's function or polarity changes, AIR-LOW
and CHUTE (R82, R83) and the own id's place in the halt set (R75); in SETUP no frame is offered and nothing else changes. -/
def Obligations.WriteConfigWritesAndClamps : Prop :=
  ∀ (offset count : Byte) (data : List Byte) (s : State), s.inReset = false →
    (data.length < count.toNat → exec (.writeConfig offset count data) s = .next { s with outgoing := none })
    ∧ (data.length = count.toNat →
      (s.mode ≠ .setup → exec (.writeConfig offset count data) s = .next (s.answered [1, 0]))
      ∧ (s.mode = .setup →
          let inside := fun j : Nat => offset.toNat ≤ j ∧ j < offset.toNat + count.toNat
          let raw := fun j : Nat => if inside j then data.getD (j - offset.toNat) 0 else s.record.byte j
          let touched := fun f : Field => ∃ k, k < f.size ∧ inside (f.offset + k)
          let raw16 := fun j : Nat => (raw j).toNat * 256 + (raw (j + 1)).toNat
          ∃ t, exec (.writeConfig offset count data) s = .next t
            ∧ t.response = [0, BitVec.ofNat 8 (min count.toNat (117 - offset.toNat))] ∧ t.outgoing = none
            ∧ (s.record.inRange → t.record.inRange)
            ∧ (∀ j : Fin 117, (∀ f ∈ recordFields, j.val < f.offset ∨ f.offset + f.size ≤ j.val) →
                t.record.bytes[j] = raw j.val)
            ∧ (∀ f ∈ recordFields, f.offset ≠ 81 → f.offset ≠ 88 →
                (touched f → t.record.brought f raw)
                ∧ (¬ touched f → ∀ k, k < f.size → t.record.byte (f.offset + k) = s.record.byte (f.offset + k)))
            ∧ t.record.minPulse = min t.record.maxOpen
                (if inside 81 ∨ inside 82 then max 500 (min 20000 (raw16 81)) else s.record.minPulse)
            ∧ t.record.budgetLow = min t.record.budget (if inside 88 then min 32 (raw 88).toNat else s.record.budgetLow)
            ∧ t.belt = (if s.record.pitch ≠ t.record.pitch ∧ t.record.pitch ≤ s.belt.accumulator then
                { s.belt with accumulator := 0 } else s.belt)
            ∧ (s.conditionsSound → t.conditionsSound) ∧ t.mode = .setup
            ∧ ((∀ i, i < 8 → t.record.byte (91 + i) = s.record.byte (91 + i)) →
                s.changesOnly t [.record, .belt, .response, .outgoing])
            ∧ (¬ (∀ i, i < 8 → t.record.byte (91 + i) = s.record.byte (91 + i)) → t.conditionsSound)
            ∧ t.monitor = { s.monitor with
                airLow := t.monitor.airLow, doorOpen := t.monitor.doorOpen
                chuteNotReady := t.monitor.chuteNotReady, stopRequested := t.monitor.stopRequested }
            ∧ t.flagSet .airLow = (s.flagSet .airLow || (!s.monitor.airLow && t.monitor.airLow))
            ∧ t.flagSet .chute = (s.flagSet .chute || (!s.monitor.chuteNotReady && t.monitor.chuteNotReady))
            ∧ s.flagsOnly t [.airLow, .chute]
            ∧ (∀ k : Nat, k < 24 → k ≠ s.strapId.toNat → t.inHaltSet k = s.inHaltSet k)
            ∧ (t.ownHalt ≠ s.ownHalt → s.strapId.toNat < 24 → t.inHaltSet s.strapId.toNat = t.ownHalt)
            ∧ (t.monitor.doorOpen = s.monitor.doorOpen ∨ t.monitor.stopRequested = s.monitor.stopRequested →
                t.freeCount = s.freeCount ∧ (t.ownHalt = s.ownHalt → t.haltSet = s.haltSet))
            ∧ (s.haltSound → t.haltSound)
            ∧ s.changesOnly t [.record, .belt, .monitor, .haltSet, .freeCount, .flags, .response, .outgoing]))

/-- R172, R173: START is refused by the first check that fails, without a change; an accepted START brings the station into
operation, and from SETUP at rest changes nothing else. On an idle line it begins the HALT assert of an asserted own halt, else the
STATUS: that the order of its effects before the first frame is this is the model's (log 27). An attempt that runs on is kept, a
STATUS being sent replaced (R52). -/
def Obligations.StartValidatesAndBegins : Prop :=
  ∀ s : State, s.inReset = false →
    let badLanes := 192 < s.record.laneBase + s.record.laneCount
    let badGeometry := s.record.role ≠ .eject ∧ s.record.beltHead ≤ s.record.sensorLine
    let badBands := ∃ b ∈ s.record.bands, b.enabled = true ∧ b.hi < b.lo
    let cause : HaltCause := if s.monitor.doorOpen then .door else if s.monitor.stopRequested then .stop else .operator
    (s.mode ≠ .setup → exec .start s = .next (s.answered [1]))
    ∧ (s.mode = .setup → 24 ≤ s.strapId.toNat → exec .start s = .next (s.answered [3]))
    ∧ (s.mode = .setup → s.strapId.toNat < 24 →
        (badLanes → exec .start s = .next (s.answered [4]))
        ∧ (¬ badLanes → badGeometry → exec .start s = .next (s.answered [5]))
        ∧ (¬ badLanes → ¬ badGeometry → badBands → exec .start s = .next (s.answered [6]))
        ∧ (¬ badLanes → ¬ badGeometry → ¬ badBands →
            ∃ t, exec .start s = .next t ∧ t.response = [0] ∧ t.outgoing = none ∧ t.belt = { s.belt with scanPhase := 0 }
              ∧ t.scan = { link := s.scan.link, waiting := 0, heldPresence := 0, heldMagnitudes := Vector.replicate 32 0
                           lastRaw := 0, filtered := 0, objects := [], continuations := [], serial := 0 }
              ∧ (∀ i : Fin 24, (i.val = s.strapId.toNat → t.peers[i] =
                    { state := .live, haltFlag := s.ownHalt, lastSequence := 0, lastHeard := 0, lossDue := none
                      about := some { role := s.record.role, curtain := s.record.curtain, kind := s.record.kind
                                      laneBase := s.record.laneBase, laneCount := s.record.laneCount
                                      sensorLine := s.record.sensorLine } })
                  ∧ (i.val ≠ s.strapId.toNat → t.peers[i] = s.peers[i]))
              ∧ t.tx.beaconDue = some (s.belt.timebase + BitVec.ofNat 32 s.record.beaconInterval)
              ∧ (s.tx.mute = false → t.tx.beacon = some 0)
              ∧ (s.tx.mute = false → s.tx.urgent = [] →
                  (s.ownHalt = false → t.tx.urgent = [])
                  ∧ (s.ownHalt = true → t.tx.urgent = [{ content := .halt true cause, errors := 0 }]))
              ∧ t.tx.sequence = s.tx.sequence ∧ t.tx.mute = s.tx.mute ∧ t.tx.consecutive = s.tx.consecutive
              ∧ (s.tx.mute = true → t.tx = { s.tx with beaconDue := t.tx.beaconDue } ∧ t.line = s.line)
              ∧ (s.tx.mute = false → s.line.status ≠ .idle → t.tx.attempt = s.tx.attempt.map fun a =>
                  if a.source = .beacon ∧ a.fate = .present then { a with fate := .replaced } else a)
              ∧ (s.tx.mute = false → s.line.status = .idle → s.tx.urgent = [] → s.tx.sightings = [] →
                  t.tx.attempt = some (if s.ownHalt then
                      { source := .urgent, fate := .present
                        frame := frameOf s.strapId s.tx.sequence (.halt true cause) }
                    else
                      { source := .beacon, fate := .present
                        frame := frameOf s.strapId s.tx.sequence (.status
                          { held := t.mode == .held, haltFlag := s.inHaltSet s.strapId.toNat, about := s.record.about }) }))
              ∧ (s.line.status ≠ .idle → t.line = s.line)
              ∧ (s.line.status = .idle → s.tx.mute = false →
                  t.line = { status := .receiving false, cSof := s.belt.count, tSof := s.belt.timebase })
              ∧ ((∀ i : Nat, i < 8 → s.record.watchMask.getLsbD i = true →
                    s.record.inputTrue s.monitor.accepted i = s.record.watchPattern.getLsbD i) →
                  t.monitor = { s.monitor with watch := .matched })
              ∧ (¬ (∀ i : Nat, i < 8 → s.record.watchMask.getLsbD i = true →
                    s.record.inputTrue s.monitor.accepted i = s.record.watchPattern.getLsbD i) →
                  t.monitor = { s.monitor with watch := .waiting })
              ∧ (s.haltSet = 0 → t.mode = .run ∧ t.flags = s.flags ∧ s.counts t .held 0)
              ∧ (s.haltSet ≠ 0 → t.mode = .held ∧ t.flagSet .held ∧ s.counts t .held 1)
              ∧ (s.setupAtRest → s.openCount = 0 →
                  t.tx.sightings = [] ∧ s.flagsOnly t [.held] ∧ s.talliesOnly t [.held, .muteDrop]
                  ∧ s.counts t .muteDrop (if s.tx.mute then (if s.ownHalt then 2 else 1) else 0)
                  ∧ s.changesOnly t [.mode, .belt, .scan, .tx, .line, .monitor, .peers, .response, .outgoing, .tallies, .flags])
              ∧ s.changesOnly t [.mode, .belt, .scan, .tx, .line, .monitor, .peers, .response, .outgoing, .freeCount, .valves,
                  .tracks, .tallies, .flags, .trace, .latest]))

/-- R19, R25, R42, R58, R65, R66, R68, R72, R85, R88, R148, R162, R174: RESTART in operation brings every block to its values of
warm restart, an attempt on the wire running on without its entry; in SETUP it changes nothing. That untaken local sightings go is
the model's (log 17). -/
def Obligations.RestartReturnsToSetup : Prop :=
  ∀ s : State, s.inReset = false →
    (s.mode = .setup → exec .restart s = .next (s.answered [0]))
    ∧ (s.mode ≠ .setup →
        ∃ t, exec .restart s = .next t ∧ t.response = [0] ∧ t.outgoing = none ∧ t.mode = .setup ∧ t.tracks = [] ∧ t.flightList = []
          ∧ s.counts t .discarded s.tracks.length ∧ (∀ x, x ≠ .discarded → t.tally x = s.tally x)
          ∧ t.inbox = [] ∧ t.copies = [] ∧ t.localSightings = []
          ∧ (∀ i : Fin 24, t.peers[i] = { state := .unknown, about := none, haltFlag := false, lastSequence := 0
                                          lastHeard := 0, lossDue := none })
          ∧ (∀ k : Nat, k < 24 → t.inHaltSet k = (s.ownHalt && decide (k = s.strapId.toNat)))
          ∧ t.monitor = { s.monitor with watch := .waiting }
          ∧ t.scan.serial = s.scan.serial ∧ t.scan.objects = [] ∧ t.scan.continuations = [] ∧ t.scan.waiting = 0
          ∧ t.scan.heldPresence = 0 ∧ t.scan.heldMagnitudes = Vector.replicate 32 0
          ∧ t.scan.lastRaw = 0 ∧ t.scan.filtered = 0
          ∧ (s.scan.link = .idle → t.scan.link = .idle)
          ∧ (∀ stamp ends void, s.scan.link = .exchange stamp ends void → t.scan.link = .exchange stamp ends true)
          ∧ t.tx.urgent = [] ∧ t.tx.sightings = [] ∧ t.tx.beacon = none ∧ t.tx.beaconDue = none ∧ t.tx.mute = false
          ∧ t.tx.consecutive = 0 ∧ t.tx.sequence = s.tx.sequence
          ∧ t.tx.attempt = s.tx.attempt.map (fun a => { a with fate := .gone })
          ∧ (∀ i : Fin 32,
              ((s.valves[i]).isOpen = true → t.valves[i] = .resting (s.belt.timebase + BitVec.ofNat 32 s.record.recovery))
              ∧ ((s.valves[i]).isOpen = false → t.valves[i] = s.valves[i]))
          ∧ t.openCount = 0
          ∧ s.changesOnly t [.mode, .scan, .localSightings, .tx, .inbox, .copies, .peers, .haltSet, .monitor, .tracks,
              .valves, .tallies, .response, .outgoing])

/-- R45, R48, R58, R68, R88, R163, R168, R175, Tables 1-1, 2-1, 4-3 and 10-3: when cold start completes every block holds
its cold values and the strap id is read; the part held in reset drives no valve and no ALERT, and takes no other command. That RESET
has its cold values at once, and that COLD_START completes at any time, is the model's (log 9, log 10). -/
def Obligations.ColdStartAndResetHoldColdValues : Prop :=
  ∀ s : State,
    (∀ straps, ∃ t, exec (.coldStart straps) s = .next t ∧ t.inReset = false ∧ t.strapId = straps ∧ t.mode = .setup
      ∧ t.belt = { count := 0, accumulator := 0, timebase := 0, scanPhase := 0, ring := [], measure := none, motion := .stopped }
      ∧ t.scan = { link := .idle, waiting := 0, heldPresence := 0, heldMagnitudes := Vector.replicate 32 0, lastRaw := 0
                   filtered := 0, objects := [], continuations := [], serial := 0 }
      ∧ t.tx = { urgent := [], sightings := [], beacon := none, beaconDue := none, sequence := 0, consecutive := 0
                 mute := false, attempt := none }
      ∧ t.line = { status := .waiting, cSof := 0, tSof := 0 }
      ∧ t.monitor = { sampleDue := 1000, lastSample := 0, accepted := 0, airLow := false, doorOpen := false
                      chuteNotReady := false, stopRequested := false, watch := .waiting }
      ∧ (∀ i : Fin 24, t.peers[i] = { state := .unknown, about := none, haltFlag := false, lastSequence := 0
                                      lastHeard := 0, lossDue := none })
      ∧ t.flags = 0 ∧ (∀ x, t.tally x = 0) ∧ t.trace = [] ∧ t.latest = none ∧ t.copies = []
      ∧ t.inbox = [] ∧ t.localSightings = [] ∧ t.tracks = [] ∧ t.haltSet = 0 ∧ t.operatorHalt = false
      ∧ (∀ i : Fin 32, t.valves[i] = .closed) ∧ t.openCount = 0
      ∧ t.budgetInForce = 12 ∧ t.chuteInhibit = false ∧ t.alertLow = false ∧ t.outgoing = none
      ∧ (let r := t.record
         (r.role = .sense ∧ r.laneBase = 0 ∧ r.laneCount = 32 ∧ r.kind = .inductiveBar ∧ r.sensorLine = 0 ∧ r.beltHead = 4000
           ∧ r.pitch = 1000 ∧ r.countedEdge = .rising ∧ r.scanPitch = 2 ∧ r.presenceThreshold = 64
           ∧ r.laneMask = 4294967295 ∧ r.bands = List.replicate 4 { enabled := false, cls := .unknown, lo := 0, hi := 255 })
         ∧ (r.maxSightingLength = 400 ∧ r.minArea = 4 ∧ r.curtain = 0 ∧ r.flightDistance = 300
           ∧ (∀ c, r.drift c = 0 ∧ r.isTarget c = false ∧ r.isRescue c = false ∧ r.classRank c = 0)
           ∧ (∀ k c, c ≠ .unknown → r.weight k c = 8) ∧ r.threshold = 1000 ∧ r.margin = 200 ∧ r.verdictDistance = 300
           ∧ r.tolerance = 10 ∧ r.maxEjectLength = 1200)
         ∧ (r.leadMargin = 10 ∧ r.trailMargin = 10 ∧ r.spread = 0 ∧ r.minPulse = 2000 ∧ r.maxOpen = 40000 ∧ r.recovery = 3000
           ∧ r.budget = 12 ∧ r.budgetLow = 4 ∧ r.sweep = false ∧ r.beaconInterval = 100000)
         ∧ ((∀ i, i < 8 → r.activeLow i = false ∧ r.inputFunction i = .none) ∧ r.watchMask = 0 ∧ r.watchPattern = 0
           ∧ (∀ f, r.alertLevel f = 4) ∧ r.alertThreshold = 4 ∧ ∀ k, r.copies k = false))
      ∧ t.record.bytes.toList =
          [0, 0, 32, 0, 0, 0, 15, 160, 3, 232, 0, 2, 64, 255, 255, 255, 255]
            ++ [0, 0, 255, 0, 0, 255, 0, 0, 255, 0, 0, 255, 1, 144, 4, 0, 1, 44]
            ++ (List.replicate 14 0 ++ List.replicate 20 8)
            ++ [3, 232, 0, 200, 1, 44, 10, 4, 176, 10, 10, 0, 7, 208, 156, 64, 11, 184, 12, 4, 0, 10]
            ++ (List.replicate 10 0 ++ List.replicate 14 4 ++ [4, 0]))
    ∧ (∃ t, exec .resetAssert s = .next t ∧ t.inReset = true ∧ (∀ i : Fin 32, t.valveDriven i = false) ∧ t.alertLow = false
        ∧ t.tx.attempt = none)
    ∧ (s.inReset = true → ∀ c, isReset c = false → exec c s = .next s)

/-- R177: ALERT is driven low while a set flag has a level at or above the threshold of the record in force, and released
otherwise; a flag of level 0 never drives it, a threshold of 8 leaves it released, with the cold defaults every flag drives it,
and it is released during and after a cold start. -/
def Obligations.AlertFollowsFlagsAndLevels : Prop :=
  ∀ s : State,
    (s.alertLow = true ↔ ∃ f : Flag, s.flagSet f = true ∧ s.record.alertThreshold ≤ s.record.alertLevel f.bit)
    ∧ (s.record.inRange → (∀ f : Flag, s.flagSet f = true → s.record.alertLevel f.bit = 0) → s.alertLow = false)
    ∧ (s.record.inRange → s.record.alertThreshold = 8 → s.alertLow = false)
    ∧ (s.record = Record.cold → (s.alertLow = true ↔ s.flags ≠ 0))
    ∧ (∀ straps t, exec (.coldStart straps) s = .next t ∨ exec .resetAssert s = .next t → t.alertLow = false)
end

