-- ==== Sys2Proof/Laws/State.lean ====
section
/-! SUPPORT. For each update of State: the fields it leaves alone, and what the fields it sets become. Every lemma is true by
unfolding, and simp knows them. -/

namespace Sys2Proof.Machine

@[simp] theorem State.bumpBy_keeps (s : State) (x : Tally) (n : Nat) :
    (s.bumpBy x n).inReset = s.inReset ∧ (s.bumpBy x n).strapId = s.strapId ∧ (s.bumpBy x n).mode = s.mode ∧
    (s.bumpBy x n).record = s.record ∧ (s.bumpBy x n).belt = s.belt ∧ (s.bumpBy x n).scan = s.scan ∧
    (s.bumpBy x n).localSightings = s.localSightings ∧ (s.bumpBy x n).tx = s.tx ∧ (s.bumpBy x n).line = s.line ∧
    (s.bumpBy x n).inbox = s.inbox ∧ (s.bumpBy x n).copies = s.copies ∧ (s.bumpBy x n).peers = s.peers ∧
    (s.bumpBy x n).haltSet = s.haltSet ∧ (s.bumpBy x n).operatorHalt = s.operatorHalt ∧
    (s.bumpBy x n).monitor = s.monitor ∧ (s.bumpBy x n).tracks = s.tracks ∧ (s.bumpBy x n).nextMade = s.nextMade ∧
    (s.bumpBy x n).valves = s.valves ∧ (s.bumpBy x n).flags = s.flags ∧ (s.bumpBy x n).trace = s.trace ∧
    (s.bumpBy x n).latest = s.latest ∧ (s.bumpBy x n).response = s.response ∧
    (s.bumpBy x n).outgoing = s.outgoing ∧
    (s.bumpBy x n).freeCount = s.freeCount ∧ (s.bumpBy x n).pending = s.pending :=
  ⟨rfl, rfl, rfl, rfl, rfl, rfl, rfl, rfl, rfl, rfl, rfl, rfl, rfl, rfl, rfl, rfl, rfl, rfl, rfl, rfl, rfl, rfl, rfl, rfl, rfl⟩

@[simp] theorem State.bump_keeps (s : State) (x : Tally) :
    (s.bump x).inReset = s.inReset ∧ (s.bump x).strapId = s.strapId ∧ (s.bump x).mode = s.mode ∧
    (s.bump x).record = s.record ∧ (s.bump x).belt = s.belt ∧ (s.bump x).scan = s.scan ∧
    (s.bump x).localSightings = s.localSightings ∧ (s.bump x).tx = s.tx ∧ (s.bump x).line = s.line ∧
    (s.bump x).inbox = s.inbox ∧ (s.bump x).copies = s.copies ∧ (s.bump x).peers = s.peers ∧
    (s.bump x).haltSet = s.haltSet ∧ (s.bump x).operatorHalt = s.operatorHalt ∧ (s.bump x).monitor = s.monitor ∧
    (s.bump x).tracks = s.tracks ∧ (s.bump x).nextMade = s.nextMade ∧ (s.bump x).valves = s.valves ∧
    (s.bump x).flags = s.flags ∧ (s.bump x).trace = s.trace ∧ (s.bump x).latest = s.latest ∧
    (s.bump x).response = s.response ∧ (s.bump x).outgoing = s.outgoing ∧
    (s.bump x).freeCount = s.freeCount ∧ (s.bump x).pending = s.pending :=
  ⟨rfl, rfl, rfl, rfl, rfl, rfl, rfl, rfl, rfl, rfl, rfl, rfl, rfl, rfl, rfl, rfl, rfl, rfl, rfl, rfl, rfl, rfl, rfl, rfl, rfl⟩

@[simp] theorem State.raise_keeps (s : State) (f : Flag) :
    (s.raise f).inReset = s.inReset ∧ (s.raise f).strapId = s.strapId ∧ (s.raise f).mode = s.mode ∧
    (s.raise f).record = s.record ∧ (s.raise f).belt = s.belt ∧ (s.raise f).scan = s.scan ∧
    (s.raise f).localSightings = s.localSightings ∧ (s.raise f).tx = s.tx ∧ (s.raise f).line = s.line ∧
    (s.raise f).inbox = s.inbox ∧ (s.raise f).copies = s.copies ∧ (s.raise f).peers = s.peers ∧
    (s.raise f).haltSet = s.haltSet ∧ (s.raise f).operatorHalt = s.operatorHalt ∧ (s.raise f).monitor = s.monitor ∧
    (s.raise f).tracks = s.tracks ∧ (s.raise f).nextMade = s.nextMade ∧ (s.raise f).valves = s.valves ∧
    (s.raise f).tallies = s.tallies ∧ (s.raise f).trace = s.trace ∧ (s.raise f).latest = s.latest ∧
    (s.raise f).response = s.response ∧ (s.raise f).outgoing = s.outgoing ∧
    (s.raise f).freeCount = s.freeCount ∧ (s.raise f).pending = s.pending :=
  ⟨rfl, rfl, rfl, rfl, rfl, rfl, rfl, rfl, rfl, rfl, rfl, rfl, rfl, rfl, rfl, rfl, rfl, rfl, rfl, rfl, rfl, rfl, rfl, rfl, rfl⟩

@[simp] theorem State.answer_keeps (s : State) (status : PortStatus) (rest : List Byte) :
    (s.answer status rest).inReset = s.inReset ∧ (s.answer status rest).strapId = s.strapId ∧
    (s.answer status rest).mode = s.mode ∧ (s.answer status rest).record = s.record ∧
    (s.answer status rest).belt = s.belt ∧ (s.answer status rest).scan = s.scan ∧
    (s.answer status rest).localSightings = s.localSightings ∧ (s.answer status rest).tx = s.tx ∧
    (s.answer status rest).line = s.line ∧ (s.answer status rest).inbox = s.inbox ∧
    (s.answer status rest).copies = s.copies ∧ (s.answer status rest).peers = s.peers ∧
    (s.answer status rest).haltSet = s.haltSet ∧ (s.answer status rest).operatorHalt = s.operatorHalt ∧
    (s.answer status rest).monitor = s.monitor ∧ (s.answer status rest).tracks = s.tracks ∧
    (s.answer status rest).nextMade = s.nextMade ∧ (s.answer status rest).valves = s.valves ∧
    (s.answer status rest).flags = s.flags ∧ (s.answer status rest).tallies = s.tallies ∧
    (s.answer status rest).trace = s.trace ∧ (s.answer status rest).latest = s.latest ∧
    (s.answer status rest).freeCount = s.freeCount ∧ (s.answer status rest).pending = s.pending :=
  ⟨rfl, rfl, rfl, rfl, rfl, rfl, rfl, rfl, rfl, rfl, rfl, rfl, rfl, rfl, rfl, rfl, rfl, rfl, rfl, rfl, rfl, rfl, rfl, rfl⟩

@[simp] theorem State.record32_keeps (s : State) (x : TraceEntry) :
    (s.record32 x).inReset = s.inReset ∧ (s.record32 x).strapId = s.strapId ∧ (s.record32 x).mode = s.mode ∧
    (s.record32 x).record = s.record ∧ (s.record32 x).belt = s.belt ∧ (s.record32 x).scan = s.scan ∧
    (s.record32 x).localSightings = s.localSightings ∧ (s.record32 x).tx = s.tx ∧ (s.record32 x).line = s.line ∧
    (s.record32 x).inbox = s.inbox ∧ (s.record32 x).copies = s.copies ∧ (s.record32 x).peers = s.peers ∧
    (s.record32 x).haltSet = s.haltSet ∧ (s.record32 x).operatorHalt = s.operatorHalt ∧
    (s.record32 x).monitor = s.monitor ∧ (s.record32 x).tracks = s.tracks ∧ (s.record32 x).nextMade = s.nextMade ∧
    (s.record32 x).valves = s.valves ∧ (s.record32 x).flags = s.flags ∧ (s.record32 x).tallies = s.tallies ∧
    (s.record32 x).response = s.response ∧ (s.record32 x).outgoing = s.outgoing ∧
    (s.record32 x).freeCount = s.freeCount ∧
    (s.record32 x).pending = s.pending :=
  ⟨rfl, rfl, rfl, rfl, rfl, rfl, rfl, rfl, rfl, rfl, rfl, rfl, rfl, rfl, rfl, rfl, rfl, rfl, rfl, rfl, rfl, rfl, rfl, rfl⟩

@[simp] theorem State.removeTrack_keeps (s : State) (id : Nat) :
    (s.removeTrack id).inReset = s.inReset ∧ (s.removeTrack id).strapId = s.strapId ∧
    (s.removeTrack id).mode = s.mode ∧ (s.removeTrack id).record = s.record ∧ (s.removeTrack id).belt = s.belt ∧
    (s.removeTrack id).scan = s.scan ∧ (s.removeTrack id).localSightings = s.localSightings ∧
    (s.removeTrack id).tx = s.tx ∧ (s.removeTrack id).line = s.line ∧ (s.removeTrack id).inbox = s.inbox ∧
    (s.removeTrack id).copies = s.copies ∧ (s.removeTrack id).peers = s.peers ∧
    (s.removeTrack id).haltSet = s.haltSet ∧ (s.removeTrack id).operatorHalt = s.operatorHalt ∧
    (s.removeTrack id).monitor = s.monitor ∧ (s.removeTrack id).nextMade = s.nextMade ∧
    (s.removeTrack id).valves = s.valves ∧ (s.removeTrack id).flags = s.flags ∧
    (s.removeTrack id).tallies = s.tallies ∧ (s.removeTrack id).trace = s.trace ∧
    (s.removeTrack id).latest = s.latest ∧ (s.removeTrack id).response = s.response ∧
    (s.removeTrack id).outgoing = s.outgoing ∧
    (s.removeTrack id).freeCount = s.freeCount ∧ (s.removeTrack id).pending = s.pending :=
  ⟨rfl, rfl, rfl, rfl, rfl, rfl, rfl, rfl, rfl, rfl, rfl, rfl, rfl, rfl, rfl, rfl, rfl, rfl, rfl, rfl, rfl, rfl, rfl, rfl, rfl⟩

@[simp] theorem State.updateTrack_keeps (s : State) (id : Nat) (f : Track → Track) :
    (s.updateTrack id f).inReset = s.inReset ∧ (s.updateTrack id f).strapId = s.strapId ∧
    (s.updateTrack id f).mode = s.mode ∧ (s.updateTrack id f).record = s.record ∧
    (s.updateTrack id f).belt = s.belt ∧ (s.updateTrack id f).scan = s.scan ∧
    (s.updateTrack id f).localSightings = s.localSightings ∧ (s.updateTrack id f).tx = s.tx ∧
    (s.updateTrack id f).line = s.line ∧ (s.updateTrack id f).inbox = s.inbox ∧
    (s.updateTrack id f).copies = s.copies ∧ (s.updateTrack id f).peers = s.peers ∧
    (s.updateTrack id f).haltSet = s.haltSet ∧ (s.updateTrack id f).operatorHalt = s.operatorHalt ∧
    (s.updateTrack id f).monitor = s.monitor ∧ (s.updateTrack id f).nextMade = s.nextMade ∧
    (s.updateTrack id f).valves = s.valves ∧ (s.updateTrack id f).flags = s.flags ∧
    (s.updateTrack id f).tallies = s.tallies ∧ (s.updateTrack id f).trace = s.trace ∧
    (s.updateTrack id f).latest = s.latest ∧ (s.updateTrack id f).response = s.response ∧
    (s.updateTrack id f).outgoing = s.outgoing ∧
    (s.updateTrack id f).freeCount = s.freeCount ∧ (s.updateTrack id f).pending = s.pending :=
  ⟨rfl, rfl, rfl, rfl, rfl, rfl, rfl, rfl, rfl, rfl, rfl, rfl, rfl, rfl, rfl, rfl, rfl, rfl, rfl, rfl, rfl, rfl, rfl, rfl, rfl⟩

@[simp] theorem State.addHalt_keeps (s : State) (id : Nat) :
    (s.addHalt id).inReset = s.inReset ∧ (s.addHalt id).strapId = s.strapId ∧ (s.addHalt id).mode = s.mode ∧
    (s.addHalt id).record = s.record ∧ (s.addHalt id).belt = s.belt ∧ (s.addHalt id).scan = s.scan ∧
    (s.addHalt id).localSightings = s.localSightings ∧ (s.addHalt id).tx = s.tx ∧ (s.addHalt id).line = s.line ∧
    (s.addHalt id).inbox = s.inbox ∧ (s.addHalt id).copies = s.copies ∧ (s.addHalt id).peers = s.peers ∧
    (s.addHalt id).operatorHalt = s.operatorHalt ∧ (s.addHalt id).monitor = s.monitor ∧
    (s.addHalt id).tracks = s.tracks ∧ (s.addHalt id).nextMade = s.nextMade ∧ (s.addHalt id).valves = s.valves ∧
    (s.addHalt id).flags = s.flags ∧ (s.addHalt id).tallies = s.tallies ∧ (s.addHalt id).trace = s.trace ∧
    (s.addHalt id).latest = s.latest ∧ (s.addHalt id).response = s.response ∧
    (s.addHalt id).outgoing = s.outgoing ∧
    (s.addHalt id).freeCount = s.freeCount ∧ (s.addHalt id).pending = s.pending :=
  ⟨rfl, rfl, rfl, rfl, rfl, rfl, rfl, rfl, rfl, rfl, rfl, rfl, rfl, rfl, rfl, rfl, rfl, rfl, rfl, rfl, rfl, rfl, rfl, rfl, rfl⟩

@[simp] theorem State.removeHalt_keeps (s : State) (id : Nat) :
    (s.removeHalt id).inReset = s.inReset ∧ (s.removeHalt id).strapId = s.strapId ∧ (s.removeHalt id).mode = s.mode ∧
    (s.removeHalt id).record = s.record ∧ (s.removeHalt id).belt = s.belt ∧ (s.removeHalt id).scan = s.scan ∧
    (s.removeHalt id).localSightings = s.localSightings ∧ (s.removeHalt id).tx = s.tx ∧
    (s.removeHalt id).line = s.line ∧ (s.removeHalt id).inbox = s.inbox ∧ (s.removeHalt id).copies = s.copies ∧
    (s.removeHalt id).peers = s.peers ∧ (s.removeHalt id).operatorHalt = s.operatorHalt ∧
    (s.removeHalt id).monitor = s.monitor ∧ (s.removeHalt id).tracks = s.tracks ∧
    (s.removeHalt id).nextMade = s.nextMade ∧ (s.removeHalt id).valves = s.valves ∧
    (s.removeHalt id).flags = s.flags ∧ (s.removeHalt id).tallies = s.tallies ∧ (s.removeHalt id).trace = s.trace ∧
    (s.removeHalt id).latest = s.latest ∧ (s.removeHalt id).response = s.response ∧
    (s.removeHalt id).outgoing = s.outgoing ∧
    (s.removeHalt id).freeCount = s.freeCount ∧ (s.removeHalt id).pending = s.pending :=
  ⟨rfl, rfl, rfl, rfl, rfl, rfl, rfl, rfl, rfl, rfl, rfl, rfl, rfl, rfl, rfl, rfl, rfl, rfl, rfl, rfl, rfl, rfl, rfl, rfl, rfl⟩

@[simp] theorem State.updatePeer_keeps (s : State) (id : Fin 24) (f : Peer → Peer) :
    (s.updatePeer id f).inReset = s.inReset ∧ (s.updatePeer id f).strapId = s.strapId ∧
    (s.updatePeer id f).mode = s.mode ∧ (s.updatePeer id f).record = s.record ∧ (s.updatePeer id f).belt = s.belt ∧
    (s.updatePeer id f).scan = s.scan ∧ (s.updatePeer id f).localSightings = s.localSightings ∧
    (s.updatePeer id f).tx = s.tx ∧ (s.updatePeer id f).line = s.line ∧ (s.updatePeer id f).inbox = s.inbox ∧
    (s.updatePeer id f).copies = s.copies ∧ (s.updatePeer id f).haltSet = s.haltSet ∧
    (s.updatePeer id f).operatorHalt = s.operatorHalt ∧ (s.updatePeer id f).monitor = s.monitor ∧
    (s.updatePeer id f).tracks = s.tracks ∧ (s.updatePeer id f).nextMade = s.nextMade ∧
    (s.updatePeer id f).valves = s.valves ∧ (s.updatePeer id f).flags = s.flags ∧
    (s.updatePeer id f).tallies = s.tallies ∧ (s.updatePeer id f).trace = s.trace ∧
    (s.updatePeer id f).latest = s.latest ∧ (s.updatePeer id f).response = s.response ∧
    (s.updatePeer id f).outgoing = s.outgoing ∧
    (s.updatePeer id f).freeCount = s.freeCount ∧ (s.updatePeer id f).pending = s.pending :=
  ⟨rfl, rfl, rfl, rfl, rfl, rfl, rfl, rfl, rfl, rfl, rfl, rfl, rfl, rfl, rfl, rfl, rfl, rfl, rfl, rfl, rfl, rfl, rfl, rfl, rfl⟩

@[simp] theorem State.closeAllValves_keeps (s : State) :
    (s.closeAllValves).inReset = s.inReset ∧ (s.closeAllValves).strapId = s.strapId ∧
    (s.closeAllValves).mode = s.mode ∧ (s.closeAllValves).record = s.record ∧ (s.closeAllValves).belt = s.belt ∧
    (s.closeAllValves).scan = s.scan ∧ (s.closeAllValves).localSightings = s.localSightings ∧
    (s.closeAllValves).tx = s.tx ∧ (s.closeAllValves).line = s.line ∧ (s.closeAllValves).inbox = s.inbox ∧
    (s.closeAllValves).copies = s.copies ∧ (s.closeAllValves).peers = s.peers ∧
    (s.closeAllValves).haltSet = s.haltSet ∧ (s.closeAllValves).operatorHalt = s.operatorHalt ∧
    (s.closeAllValves).monitor = s.monitor ∧ (s.closeAllValves).tracks = s.tracks ∧
    (s.closeAllValves).nextMade = s.nextMade ∧ (s.closeAllValves).flags = s.flags ∧
    (s.closeAllValves).tallies = s.tallies ∧ (s.closeAllValves).trace = s.trace ∧
    (s.closeAllValves).latest = s.latest ∧ (s.closeAllValves).response = s.response ∧
    (s.closeAllValves).outgoing = s.outgoing ∧
    (s.closeAllValves).freeCount = s.freeCount ∧ (s.closeAllValves).pending = s.pending := by
  simp only [State.closeAllValves, and_self]

@[simp] theorem State.latch_keeps (s : State) :
    (s.latch).inReset = s.inReset ∧ (s.latch).strapId = s.strapId ∧ (s.latch).mode = s.mode ∧
    (s.latch).record = s.record ∧ (s.latch).belt = s.belt ∧ (s.latch).scan = s.scan ∧
    (s.latch).localSightings = s.localSightings ∧ (s.latch).tx = s.tx ∧ (s.latch).inbox = s.inbox ∧
    (s.latch).copies = s.copies ∧ (s.latch).peers = s.peers ∧ (s.latch).haltSet = s.haltSet ∧
    (s.latch).operatorHalt = s.operatorHalt ∧ (s.latch).monitor = s.monitor ∧ (s.latch).tracks = s.tracks ∧
    (s.latch).nextMade = s.nextMade ∧ (s.latch).valves = s.valves ∧ (s.latch).flags = s.flags ∧
    (s.latch).tallies = s.tallies ∧ (s.latch).trace = s.trace ∧ (s.latch).latest = s.latest ∧
    (s.latch).response = s.response ∧ (s.latch).outgoing = s.outgoing ∧
    (s.latch).freeCount = s.freeCount ∧ (s.latch).pending = s.pending :=
  ⟨rfl, rfl, rfl, rfl, rfl, rfl, rfl, rfl, rfl, rfl, rfl, rfl, rfl, rfl, rfl, rfl, rfl, rfl, rfl, rfl, rfl, rfl, rfl, rfl, rfl⟩

@[simp] theorem State.endFrame_keeps (s : State) :
    (s.endFrame).inReset = s.inReset ∧ (s.endFrame).strapId = s.strapId ∧ (s.endFrame).mode = s.mode ∧
    (s.endFrame).record = s.record ∧ (s.endFrame).belt = s.belt ∧ (s.endFrame).scan = s.scan ∧
    (s.endFrame).localSightings = s.localSightings ∧ (s.endFrame).tx = s.tx ∧ (s.endFrame).inbox = s.inbox ∧
    (s.endFrame).copies = s.copies ∧ (s.endFrame).peers = s.peers ∧ (s.endFrame).haltSet = s.haltSet ∧
    (s.endFrame).operatorHalt = s.operatorHalt ∧ (s.endFrame).monitor = s.monitor ∧ (s.endFrame).tracks = s.tracks ∧
    (s.endFrame).nextMade = s.nextMade ∧ (s.endFrame).valves = s.valves ∧ (s.endFrame).flags = s.flags ∧
    (s.endFrame).tallies = s.tallies ∧ (s.endFrame).trace = s.trace ∧ (s.endFrame).latest = s.latest ∧
    (s.endFrame).response = s.response ∧ (s.endFrame).outgoing = s.outgoing ∧
    (s.endFrame).freeCount = s.freeCount ∧ (s.endFrame).pending = s.pending :=
  ⟨rfl, rfl, rfl, rfl, rfl, rfl, rfl, rfl, rfl, rfl, rfl, rfl, rfl, rfl, rfl, rfl, rfl, rfl, rfl, rfl, rfl, rfl, rfl, rfl, rfl⟩

@[simp] theorem State.breakFrame_keeps (s : State) :
    (s.breakFrame).inReset = s.inReset ∧ (s.breakFrame).strapId = s.strapId ∧ (s.breakFrame).mode = s.mode ∧
    (s.breakFrame).record = s.record ∧ (s.breakFrame).belt = s.belt ∧ (s.breakFrame).scan = s.scan ∧
    (s.breakFrame).localSightings = s.localSightings ∧ (s.breakFrame).inbox = s.inbox ∧
    (s.breakFrame).copies = s.copies ∧ (s.breakFrame).peers = s.peers ∧ (s.breakFrame).haltSet = s.haltSet ∧
    (s.breakFrame).operatorHalt = s.operatorHalt ∧ (s.breakFrame).monitor = s.monitor ∧ (s.breakFrame).tracks = s.tracks ∧
    (s.breakFrame).nextMade = s.nextMade ∧ (s.breakFrame).valves = s.valves ∧ (s.breakFrame).flags = s.flags ∧
    (s.breakFrame).tallies = s.tallies ∧ (s.breakFrame).trace = s.trace ∧ (s.breakFrame).latest = s.latest ∧
    (s.breakFrame).response = s.response ∧ (s.breakFrame).outgoing = s.outgoing ∧
    (s.breakFrame).freeCount = s.freeCount ∧ (s.breakFrame).pending = s.pending :=
  ⟨rfl, rfl, rfl, rfl, rfl, rfl, rfl, rfl, rfl, rfl, rfl, rfl, rfl, rfl, rfl, rfl, rfl, rfl, rfl, rfl, rfl, rfl, rfl, rfl⟩

@[simp] theorem State.send_keeps (s : State) (source : Source) (b : Body) :
    (s.send source b).inReset = s.inReset ∧ (s.send source b).strapId = s.strapId ∧ (s.send source b).mode = s.mode ∧
    (s.send source b).record = s.record ∧ (s.send source b).belt = s.belt ∧ (s.send source b).scan = s.scan ∧
    (s.send source b).localSightings = s.localSightings ∧ (s.send source b).line = s.line ∧
    (s.send source b).inbox = s.inbox ∧ (s.send source b).copies = s.copies ∧ (s.send source b).peers = s.peers ∧
    (s.send source b).haltSet = s.haltSet ∧ (s.send source b).operatorHalt = s.operatorHalt ∧
    (s.send source b).monitor = s.monitor ∧ (s.send source b).tracks = s.tracks ∧
    (s.send source b).nextMade = s.nextMade ∧ (s.send source b).valves = s.valves ∧
    (s.send source b).flags = s.flags ∧ (s.send source b).tallies = s.tallies ∧ (s.send source b).trace = s.trace ∧
    (s.send source b).latest = s.latest ∧ (s.send source b).response = s.response ∧
    (s.send source b).outgoing = s.outgoing ∧
    (s.send source b).freeCount = s.freeCount ∧ (s.send source b).pending = s.pending :=
  ⟨rfl, rfl, rfl, rfl, rfl, rfl, rfl, rfl, rfl, rfl, rfl, rfl, rfl, rfl, rfl, rfl, rfl, rfl, rfl, rfl, rfl, rfl, rfl, rfl, rfl⟩

@[simp] theorem State.holdLine_keeps (s : State) (mags : Vector Byte 32) :
    (s.holdLine mags).inReset = s.inReset ∧ (s.holdLine mags).strapId = s.strapId ∧ (s.holdLine mags).mode = s.mode ∧
    (s.holdLine mags).record = s.record ∧ (s.holdLine mags).belt = s.belt ∧
    (s.holdLine mags).localSightings = s.localSightings ∧ (s.holdLine mags).tx = s.tx ∧
    (s.holdLine mags).line = s.line ∧ (s.holdLine mags).inbox = s.inbox ∧ (s.holdLine mags).copies = s.copies ∧
    (s.holdLine mags).peers = s.peers ∧ (s.holdLine mags).haltSet = s.haltSet ∧
    (s.holdLine mags).operatorHalt = s.operatorHalt ∧ (s.holdLine mags).monitor = s.monitor ∧
    (s.holdLine mags).tracks = s.tracks ∧ (s.holdLine mags).nextMade = s.nextMade ∧
    (s.holdLine mags).valves = s.valves ∧ (s.holdLine mags).flags = s.flags ∧ (s.holdLine mags).tallies = s.tallies ∧
    (s.holdLine mags).trace = s.trace ∧ (s.holdLine mags).latest = s.latest ∧
    (s.holdLine mags).response = s.response ∧ (s.holdLine mags).outgoing = s.outgoing ∧
    (s.holdLine mags).freeCount = s.freeCount ∧
    (s.holdLine mags).pending = s.pending :=
  ⟨rfl, rfl, rfl, rfl, rfl, rfl, rfl, rfl, rfl, rfl, rfl, rfl, rfl, rfl, rfl, rfl, rfl, rfl, rfl, rfl, rfl, rfl, rfl, rfl, rfl⟩

@[simp] theorem State.dropResponse_keeps (s : State) :
    (s.dropResponse).inReset = s.inReset ∧ (s.dropResponse).strapId = s.strapId ∧ (s.dropResponse).mode = s.mode ∧
    (s.dropResponse).record = s.record ∧ (s.dropResponse).belt = s.belt ∧ (s.dropResponse).scan = s.scan ∧
    (s.dropResponse).localSightings = s.localSightings ∧ (s.dropResponse).tx = s.tx ∧ (s.dropResponse).line = s.line ∧
    (s.dropResponse).inbox = s.inbox ∧ (s.dropResponse).copies = s.copies ∧ (s.dropResponse).peers = s.peers ∧
    (s.dropResponse).haltSet = s.haltSet ∧ (s.dropResponse).operatorHalt = s.operatorHalt ∧
    (s.dropResponse).monitor = s.monitor ∧ (s.dropResponse).tracks = s.tracks ∧
    (s.dropResponse).nextMade = s.nextMade ∧ (s.dropResponse).valves = s.valves ∧ (s.dropResponse).flags = s.flags ∧
    (s.dropResponse).tallies = s.tallies ∧ (s.dropResponse).trace = s.trace ∧ (s.dropResponse).latest = s.latest ∧
    (s.dropResponse).response = s.response ∧ (s.dropResponse).freeCount = s.freeCount ∧
    (s.dropResponse).pending = s.pending :=
  ⟨rfl, rfl, rfl, rfl, rfl, rfl, rfl, rfl, rfl, rfl, rfl, rfl, rfl, rfl, rfl, rfl, rfl, rfl, rfl, rfl, rfl, rfl, rfl, rfl, rfl⟩

@[simp] theorem State.dropResponse_outgoing (s : State) : s.dropResponse.outgoing = none := rfl

@[simp] theorem State.goOn_keeps (s : State) (values : List PortValue) (waits : List Nat) :
    (s.goOn values waits).inReset = s.inReset ∧ (s.goOn values waits).strapId = s.strapId ∧
    (s.goOn values waits).mode = s.mode ∧ (s.goOn values waits).record = s.record ∧
    (s.goOn values waits).belt = s.belt ∧ (s.goOn values waits).scan = s.scan ∧
    (s.goOn values waits).localSightings = s.localSightings ∧ (s.goOn values waits).tx = s.tx ∧
    (s.goOn values waits).line = s.line ∧ (s.goOn values waits).inbox = s.inbox ∧
    (s.goOn values waits).copies = s.copies ∧ (s.goOn values waits).peers = s.peers ∧
    (s.goOn values waits).haltSet = s.haltSet ∧ (s.goOn values waits).operatorHalt = s.operatorHalt ∧
    (s.goOn values waits).monitor = s.monitor ∧ (s.goOn values waits).tracks = s.tracks ∧
    (s.goOn values waits).nextMade = s.nextMade ∧ (s.goOn values waits).valves = s.valves ∧
    (s.goOn values waits).flags = s.flags ∧ (s.goOn values waits).tallies = s.tallies ∧
    (s.goOn values waits).trace = s.trace ∧ (s.goOn values waits).latest = s.latest ∧
    (s.goOn values waits).freeCount = s.freeCount ∧ (s.goOn values waits).pending = s.pending :=
  ⟨rfl, rfl, rfl, rfl, rfl, rfl, rfl, rfl, rfl, rfl, rfl, rfl, rfl, rfl, rfl, rfl, rfl, rfl, rfl, rfl, rfl, rfl, rfl, rfl⟩

@[simp] theorem State.tick_keeps (s : State) :
    (s.tick).inReset = s.inReset ∧ (s.tick).strapId = s.strapId ∧ (s.tick).mode = s.mode ∧
    (s.tick).record = s.record ∧ (s.tick).scan = s.scan ∧ (s.tick).localSightings = s.localSightings ∧
    (s.tick).tx = s.tx ∧ (s.tick).line = s.line ∧ (s.tick).inbox = s.inbox ∧ (s.tick).copies = s.copies ∧
    (s.tick).peers = s.peers ∧ (s.tick).haltSet = s.haltSet ∧ (s.tick).operatorHalt = s.operatorHalt ∧
    (s.tick).monitor = s.monitor ∧ (s.tick).tracks = s.tracks ∧ (s.tick).nextMade = s.nextMade ∧
    (s.tick).valves = s.valves ∧ (s.tick).flags = s.flags ∧ (s.tick).tallies = s.tallies ∧ (s.tick).trace = s.trace ∧
    (s.tick).latest = s.latest ∧ (s.tick).response = s.response ∧ (s.tick).outgoing = s.outgoing ∧
    (s.tick).freeCount = s.freeCount ∧
    (s.tick).pending = s.pending :=
  ⟨rfl, rfl, rfl, rfl, rfl, rfl, rfl, rfl, rfl, rfl, rfl, rfl, rfl, rfl, rfl, rfl, rfl, rfl, rfl, rfl, rfl, rfl, rfl, rfl, rfl⟩

/-! ## What the changed field becomes -/

theorem State.bumpBy_tallies (s : State) (x : Tally) (n : Nat) :
    (s.bumpBy x n).tallies = s.tallies.set x.index (addTally s.tallies[x.index] n) := rfl

@[simp] theorem State.bumpBy_tally (s : State) (x : Tally) (n : Nat) : (s.bumpBy x n).tally x = addTally (s.tally x) n := by
  simp [State.tally, State.bumpBy]

theorem State.bumpBy_tally_other (s : State) (x y : Tally) (n : Nat) (h : x.index ≠ y.index) :
    (s.bumpBy x n).tally y = s.tally y := by
  have : x.index.val ≠ y.index.val := fun e => h (Fin.ext e)
  simp [State.tally, State.bumpBy, this]

theorem State.raise_flags (s : State) (f : Flag) : (s.raise f).flags = s.flags ||| BitVec.twoPow 14 f.bit.val := rfl

@[simp] theorem State.raise_flagSet (s : State) (f : Flag) : (s.raise f).flagSet f = true := by
  simp [State.flagSet, State.raise]

theorem State.raise_flagSet_other (s : State) (f g : Flag) (h : f.bit ≠ g.bit) : (s.raise f).flagSet g = s.flagSet g := by
  have : ¬(f.bit.val = g.bit.val) := fun e => h (Fin.ext e)
  simp only [State.flagSet, State.raise, BitVec.getLsbD_or, BitVec.getLsbD_twoPow]
  simp [this]

@[simp] theorem State.answer_response (s : State) (status : PortStatus) (rest : List Byte) :
    (s.answer status rest).response = byteOf status.code :: rest := rfl

@[simp] theorem State.answer_outgoing (s : State) (status : PortStatus) (rest : List Byte) :
    (s.answer status rest).outgoing = none := rfl

@[simp] theorem State.removeTrack_tracks (s : State) (id : Nat) :
    (s.removeTrack id).tracks = s.tracks.filter fun t => t.made != id := rfl

@[simp] theorem State.updateTrack_tracks (s : State) (id : Nat) (f : Track → Track) :
    (s.updateTrack id f).tracks = s.tracks.map fun t => if t.made = id then f t else t := rfl

@[simp] theorem State.latch_line (s : State) :
    s.latch.line = { status := .receiving false, cSof := s.belt.count, tSof := s.belt.timebase } := rfl

@[simp] theorem State.breakFrame_tx (s : State) : s.breakFrame.tx = { s.tx with attempt := none } := rfl

@[simp] theorem State.breakFrame_line (s : State) : s.breakFrame.line = { s.line with status := .broken } := rfl

@[simp] theorem State.endFrame_line (s : State) : s.endFrame.line = { s.line with status := .waiting } := rfl

@[simp] theorem State.tick_belt (s : State) : s.tick.belt = { s.belt with timebase := s.belt.timebase + 1 } := rfl

@[simp] theorem State.closeAllValves_valve (s : State) (i : Fin 32) :
    s.closeAllValves.valves[i] = closeValve s.belt.timebase s.record.recovery s.valves[i] := by
  simp [State.closeAllValves]

/-- Out of reset a command is its effect; in reset it changes nothing. -/
theorem State.act_out (s : State) (f : State → State) (h : s.inReset = false) : s.act f = .next (f s) := by
  simp [State.act, h]

theorem State.act_in (s : State) (f : State → State) (h : s.inReset = true) : s.act f = .next s := by
  simp [State.act, h]

/-- What an answered next state of `act` is. -/
theorem State.act_next (s t : State) (f : State → State) (h : s.act f = .next t) :
    (s.inReset = true ∧ t = s) ∨ (s.inReset = false ∧ t = f s) := by
  unfold State.act at h
  injection h with h
  cases hr : s.inReset
  · right; rw [hr] at h; exact ⟨rfl, by simpa using h.symm⟩
  · left; rw [hr] at h; exact ⟨rfl, by simpa using h.symm⟩

end Sys2Proof.Machine
end

