-- ==== Sys2Proof/Laws/Frames.lean ====
section
/-! SUPPORT. For each shared operation, once, all the parts it can change. A proof about a part an operation leaves alone cites
its lemma here and unfolds nothing. -/

namespace Sys2Proof.Machine

/-! ## The relation -/

theorem State.changesOnly.refl (s : State) (ps : List Part) : s.changesOnly s ps := by
  intro p _; cases p <;> rfl

theorem State.changesOnly.trans {s t u : State} {ps : List Part} (h : s.changesOnly t ps) (k : t.changesOnly u ps) :
    s.changesOnly u ps := by
  intro p hp
  have a := h p hp
  have b := k p hp
  cases p <;> exact Eq.trans b a

theorem State.changesOnly.mono {s t : State} {ps qs : List Part} (h : s.changesOnly t ps)
    (sub : ∀ p ∈ ps, p ∈ qs) : s.changesOnly t qs :=
  fun p hp => h p fun hm => hp (sub p hm)

/-- One after another, under any list that holds both. -/
theorem State.changesOnly.then {s t u : State} {ps qs rs : List Part} (h : s.changesOnly t ps) (k : t.changesOnly u qs)
    (hp : ∀ p ∈ ps, p ∈ rs) (hq : ∀ p ∈ qs, p ∈ rs) : s.changesOnly u rs :=
  (h.mono hp).trans (k.mono hq)

theorem State.changesOnly.ite {s t u : State} {ps : List Part} (c : Prop) [Decidable c] (h : s.changesOnly t ps)
    (k : s.changesOnly u ps) : s.changesOnly (if c then t else u) ps := by
  split
  · exact h
  · exact k

/-- A fold of steps that each change only `ps`. -/
theorem State.changesOnly.foldl {α : Type} {ps : List Part} (f : State → α → State)
    (h : ∀ (s : State) (a : α), s.changesOnly (f s a) ps) (xs : List α) : ∀ s : State, s.changesOnly (xs.foldl f s) ps := by
  induction xs with
  | nil => intro s; exact .refl s ps
  | cons a xs ih => intro s; exact (h s a).trans (ih (f s a))

/-! ## Lists of parts -/

/-- A response at the port. -/
abbrev portParts : List Part := [.response, .outgoing]
/-- The link transmitter's. -/
abbrev linkParts : List Part := [.tx, .line, .tallies]
/-- The end of a track. -/
abbrev endParts : List Part := [.tracks, .tallies, .trace, .latest]
/-- The end of a track with its frame. -/
abbrev outcomeParts : List Part := [.tracks, .tallies, .trace, .latest, .tx, .line]
/-- A grant, a launch, a belt event. -/
abbrev flightParts : List Part := [.tracks, .valves, .tallies, .trace, .latest, .tx, .line]
/-- The work of a sighting. -/
abbrev trackParts : List Part := [.tracks, .nextMade, .tx, .line, .tallies, .flags]
/-- A scan. -/
abbrev scanParts : List Part := [.scan, .localSightings, .tx, .line, .tallies, .flags]
/-- A change of the station state. -/
abbrev holdParts : List Part := [.mode, .freeCount, .valves, .tracks, .tallies, .flags, .trace, .latest]
/-- A change of the own halt. -/
abbrev haltParts : List Part :=
  [.haltSet, .peers, .tx, .line, .mode, .freeCount, .valves, .tracks, .tallies, .flags, .trace, .latest]
/-- An evaluation of the conditions. -/
abbrev conditionParts : List Part :=
  [.monitor, .haltSet, .peers, .tx, .line, .mode, .freeCount, .valves, .tracks, .tallies, .flags, .trace, .latest]
/-- An accepted frame. -/
abbrev frameParts : List Part :=
  [.inbox, .copies, .haltSet, .peers, .mode, .freeCount, .valves, .tracks, .tallies, .flags, .trace, .latest]
/-- An accepted START. -/
abbrev startParts : List Part :=
  [.belt, .scan, .monitor, .peers, .tx, .line, .mode, .freeCount, .valves, .tracks, .tallies, .flags, .trace, .latest, .response,
   .outgoing]
/-- What falls between two advances of one edge. -/
abbrev betweenParts : List Part :=
  [.belt, .scan, .localSightings, .inbox, .monitor, .haltSet, .peers, .operatorHalt, .tx, .line, .mode, .freeCount, .valves,
   .tracks, .nextMade, .tallies, .flags, .trace, .latest, .response, .outgoing]
/-- An advance of the belt. -/
abbrev beltParts : List Part :=
  [.belt, .scan, .tracks, .valves, .tallies, .flags, .trace, .latest, .tx, .line]

/-! ## Tallies, flags, tracks -/

theorem State.bumpBy_only (s : State) (x : Tally) (n : Nat) : s.changesOnly (s.bumpBy x n) [.tallies] := by
  intro p hp; cases p <;> first | rfl | simp at hp

theorem State.bump_only (s : State) (x : Tally) : s.changesOnly (s.bump x) [.tallies] := s.bumpBy_only x 1

theorem State.raise_only (s : State) (f : Flag) : s.changesOnly (s.raise f) [.flags] := by
  intro p hp; cases p <;> first | rfl | simp at hp

theorem State.answer_only (s : State) (status : PortStatus) (rest : List Byte) :
    s.changesOnly (s.answer status rest) portParts := by
  intro p hp; cases p <;> first | rfl | simp at hp

theorem State.goOn_only (s : State) (values : List PortValue) (waits : List Nat) :
    s.changesOnly (s.goOn values waits) portParts := by
  intro p hp; cases p <;> first | rfl | simp at hp

theorem State.reply_only (s : State) (values : List PortValue) (waits : List Nat) :
    s.changesOnly (s.reply values waits) portParts :=
  (s.answer_only _ _).trans (State.goOn_only _ _ _)

theorem State.formValue_only (s : State) : s.changesOnly s.formValue portParts := by
  unfold State.formValue
  split
  · exact .refl _ _
  · exact .ite _ (s.goOn_only _ _) (.refl _ _)

theorem State.updateTrack_only (s : State) (id : Nat) (f : Track → Track) : s.changesOnly (s.updateTrack id f) [.tracks] := by
  intro p hp; cases p <;> first | rfl | simp at hp

theorem State.updatePeer_only (s : State) (id : Fin 24) (f : Peer → Peer) : s.changesOnly (s.updatePeer id f) [.peers] := by
  intro p hp; cases p <;> first | rfl | simp at hp

theorem State.endTrack_only (s : State) (t : Track) (e : TrackEnd) : s.changesOnly (s.endTrack t e) endParts := by
  intro p hp
  cases p <;> first
    | (simp at hp; done)
    | (simp only [Part.same, State.endTrack, State.countEnd, State.record32_keeps]
       split <;> simp)

theorem State.closeAllValves_only (s : State) : s.changesOnly s.closeAllValves [.valves] := by
  intro p hp
  cases p <;> first
    | (simp at hp; done)
    | simp [Part.same]

/-! ## Link transmitter -/

theorem State.enqueueUrgent_only (s : State) (u : Urgent) : s.changesOnly (s.enqueueUrgent u) [.tx, .tallies] := by
  unfold State.enqueueUrgent
  refine .ite _ (.refl _ _) (.ite _ ((s.bump_only _).mono (by simp)) (.ite _ ((s.bump_only _).mono (by simp)) ?_))
  intro p hp; cases p <;> first | rfl | simp at hp

theorem State.enqueueSighting_only (s : State) (x : Sighting) : s.changesOnly (s.enqueueSighting x) [.tx, .tallies] := by
  unfold State.enqueueSighting
  refine .ite _ (.refl _ _) (.ite _ ((s.bump_only _).mono (by simp)) (.ite _ ((s.bump_only _).mono (by simp)) ?_))
  intro p hp; cases p <;> first | rfl | simp at hp

theorem State.placeStatus_only (s : State) : s.changesOnly s.placeStatus [.tx, .tallies] := by
  unfold State.placeStatus
  refine .ite _ (.refl _ _) (.ite _ ((s.bump_only _).mono (by simp)) ?_)
  intro p hp; cases p <;> first | rfl | simp at hp

theorem State.send_only (s : State) (source : Source) (b : Body) : s.changesOnly (s.send source b) [.tx] := by
  intro p hp; cases p <;> first | rfl | simp at hp

theorem State.latch_only (s : State) : s.changesOnly s.latch [.line] := by
  intro p hp; cases p <;> first | rfl | simp at hp

theorem State.endFrame_only (s : State) : s.changesOnly s.endFrame [.line] := by
  intro p hp; cases p <;> first | rfl | simp at hp

theorem State.breakFrame_only (s : State) : s.changesOnly s.breakFrame [.tx, .line] := by
  intro p hp; cases p <;> first | rfl | simp at hp

theorem State.dropStale_only (s : State) : s.changesOnly s.dropStale [.tx, .tallies] := by
  intro p hp; cases p <;> first | rfl | simp at hp

theorem State.sendLesser_only (s : State) : s.changesOnly s.sendLesser [.tx] := by
  unfold State.sendLesser
  split
  · exact s.send_only _ _
  · exact .ite _ (s.send_only _ _) (.refl _ _)

theorem State.sendHead_only (s : State) : s.changesOnly s.sendHead [.tx, .tallies] := by
  unfold State.sendHead
  split
  · exact (s.send_only _ _).mono (by simp)
  · exact s.dropStale_only.then s.dropStale.sendLesser_only (by simp) (by simp)

theorem State.begin_only (s : State) : s.changesOnly s.begin linkParts := by
  unfold State.begin
  exact .ite _ (s.latch_only.then s.latch.sendHead_only (by simp) (by simp)) (.refl _ _)

theorem State.offer_only (s : State) (u : Urgent) : s.changesOnly (s.offer u) linkParts :=
  (s.enqueueUrgent_only u).then (s.enqueueUrgent u).begin_only (by simp) (by simp)

theorem State.offerSighting_only (s : State) (x : Sighting) : s.changesOnly (s.offerSighting x) linkParts :=
  (s.enqueueSighting_only x).then (s.enqueueSighting x).begin_only (by simp) (by simp)

theorem State.chargeEntry_only (s : State) (a : Attempt) : s.changesOnly (s.chargeEntry a) [.tx, .tallies] := by
  unfold State.chargeEntry
  split
  · exact .refl _ _
  · exact .refl _ _
  · dsimp only
    refine .ite _ ?_ ?_ <;> (intro p hp; cases p <;> first | rfl | simp at hp)

theorem State.enterMute_only (s : State) : s.changesOnly s.enterMute [.tx, .tallies, .flags] := by
  intro p hp; cases p <;> first | rfl | simp at hp

theorem State.countError_only (s : State) : s.changesOnly s.countError [.tx, .tallies, .flags] := by
  unfold State.countError
  dsimp only
  refine .ite _ ?_ ?_
  · refine State.changesOnly.then (ps := [.tx]) ?_ (State.enterMute_only _) (by simp) (by simp)
    intro p hp; cases p <;> first | rfl | simp at hp
  · intro p hp; cases p <;> first | rfl | simp at hp

/-! ## Track unit, launches and grants -/

theorem State.missTrack_only (s : State) (t : Track) (reason : MissReason) :
    s.changesOnly (s.missTrack t reason) outcomeParts :=
  (s.endTrack_only t _).then ((s.endTrack t _).offer_only _) (by simp) (by simp)

theorem State.settleTrack_only (s : State) (id : Nat) : s.changesOnly (s.settleTrack id) endParts := by
  unfold State.settleTrack
  split
  · exact .refl _ _
  · split
    · exact .ite _ (s.endTrack_only _ _) (.refl _ _)
    · exact .refl _ _

theorem State.serveValves_only (s : State) (t : Track) (tClose : Time) : s.changesOnly (s.serveValves t tClose) [.valves] := by
  intro p hp
  cases p <;> first
    | (simp at hp; done)
    | simp only [Part.same, State.serveValves]

theorem State.grant_only (s : State) (t : Track) (f : Flight) : s.changesOnly (s.grant t f) flightParts := by
  unfold State.grant
  refine State.changesOnly.then (ps := flightParts) ?_ (State.settleTrack_only _ _) (fun _ h => h) (by simp)
  refine State.changesOnly.then (ps := [.tracks, .valves]) ?_ (State.offer_only _ _) (by simp) (by simp)
  exact (s.serveValves_only t _).then ((s.serveValves t _).updateTrack_only _ _) (by simp) (by simp)

theorem State.request_only (s : State) (id : Nat) : s.changesOnly (s.request id) flightParts := by
  unfold State.request
  split
  · exact .refl _ _
  · split
    · split
      · exact (s.missTrack_only _ _).mono (by simp)
      · exact s.grant_only _ _
    · exact .refl _ _

theorem State.openIfDue_only (s : State) (id : Nat) : s.changesOnly (s.openIfDue id) flightParts := by
  unfold State.openIfDue
  split
  · exact .refl _ _
  · split
    · exact .refl _ _
    · refine .ite _ ?_ (.refl _ _)
      split
      · exact s.request_only _
      · exact (s.endTrack_only _ _).mono (by simp)
      · exact .refl _ _

theorem State.fly_only (s : State) (t : Track) (launch : Time) (delta : Nat) (next : TrackState) :
    s.changesOnly (s.fly t launch delta next) flightParts :=
  (s.updateTrack_only _ _).then (State.openIfDue_only _ _) (by simp) (fun _ h => h)

theorem State.launchArmed_only (s : State) (t : Track) (launch : Time) (measure : Option Time) :
    s.changesOnly (s.launchArmed t launch measure) flightParts := by
  unfold State.launchArmed
  split
  · exact (s.missTrack_only _ _).mono (by simp)
  · exact .ite _ ((s.missTrack_only _ _).mono (by simp)) (s.fly_only _ _ _ _)

theorem State.launchWatching_only (s : State) (t : Track) (launch : Time) (measure : Option Time) :
    s.changesOnly (s.launchWatching t launch measure) flightParts := by
  unfold State.launchWatching
  split
  · exact (s.endTrack_only _ _).mono (by simp)
  · exact .ite _ ((s.endTrack_only _ _).mono (by simp)) (s.fly_only _ _ _ _)

theorem State.judge_only (s : State) (t : Track) : s.changesOnly (s.judge t) [.tracks, .tx, .line, .tallies] := by
  unfold State.judge
  dsimp only
  refine .ite _ ?_ ((s.updateTrack_only _ _).mono (by simp))
  exact (s.updateTrack_only _ _).then (State.offer_only _ _) (by simp) (by simp)

theorem State.judgeIfDue_only (s : State) (id : Nat) : s.changesOnly (s.judgeIfDue id) [.tracks, .tx, .line, .tallies] := by
  unfold State.judgeIfDue
  split
  · exact .refl _ _
  · exact .ite _ (s.judge_only _) (.refl _ _)

theorem State.join_only (s : State) (t : Track) (others : List Track) (x : Track) :
    s.changesOnly (s.join t others x) trackParts := by
  unfold State.join
  refine State.changesOnly.then (ps := [.tracks]) ?_ (State.judgeIfDue_only _ _) (by simp) (by simp)
  intro p hp; cases p <;> first | rfl | simp at hp

theorem State.make_only (s : State) (x : Track) : s.changesOnly (s.make x) trackParts := by
  unfold State.make
  refine .ite _ ((s.bump_only _).then (State.raise_only _ _) (by simp) (by simp)) ?_
  refine State.changesOnly.then (ps := [.tracks, .nextMade]) ?_ (State.judgeIfDue_only _ _) (by simp) (by simp)
  intro p hp; cases p <;> first | rfl | simp at hp

theorem State.associate_only (s : State) (x : Track) : s.changesOnly (s.associate x) trackParts := by
  unfold State.associate
  dsimp only
  split
  · exact s.join_only _ _ _
  · exact .ite _ (s.make_only _) ((s.bump_only _).mono (by simp))

theorem State.workSighting_only (s : State) (e : Evidence) : s.changesOnly (s.workSighting e) trackParts := by
  unfold State.workSighting
  refine .ite _ (.refl _ _) (.ite _ ((s.bump_only _).mono (by simp)) ?_)
  exact .ite _ ((s.bump_only _).mono (by simp)) (s.associate_only _)

theorem State.beltEvent_only (stamp : Time) (s : State) (id : Nat) : s.changesOnly (State.beltEvent stamp s id) flightParts := by
  unfold State.beltEvent
  split
  · exact .refl _ _
  · refine .ite _ ?_ (.refl _ _)
    split
    · exact (s.judge_only _).mono (by simp)
    · exact s.launchArmed_only _ _ _
    · exact s.launchWatching_only _ _ _
    all_goals exact .refl _ _

theorem State.beltEvents_only (s : State) (stamp : Time) : s.changesOnly (s.beltEvents stamp) flightParts :=
  State.changesOnly.foldl _ (fun s id => State.beltEvent_only stamp s id) _ s

theorem State.recompute_only (s : State) (t : Track) (c : PieceClass) (kept tooLate : Tally) :
    s.changesOnly (s.recompute t c kept tooLate) [.tracks, .tallies] := by
  unfold State.recompute
  split
  · exact .refl _ _
  · exact .ite _ ((s.updateTrack_only _ _).then (State.bump_only _ _) (by simp) (by simp)) ((s.bump_only _).mono (by simp))

theorem State.arm_only (s : State) (t : Track) (c : PieceClass) (tally : Tally) :
    s.changesOnly (s.arm t c tally) [.tracks, .tallies] :=
  (s.updateTrack_only _ _).then (State.bump_only _ _) (by simp) (by simp)

theorem State.claimEffect_only (s : State) (t : Track) (c : PieceClass) :
    s.changesOnly (s.claimEffect t c) [.tracks, .tallies] := by
  unfold State.claimEffect
  split
  · exact (s.updateTrack_only _ _).mono (by simp)
  · exact .ite _ (s.arm_only _ _ _) (.refl _ _)
  · exact .ite _ (s.recompute_only _ _ _ _) (.refl _ _)
  · exact .ite _ (.refl _ _) ((s.bump_only _).mono (by simp))
  · exact .ite _ (.refl _ _) ((s.bump_only _).mono (by simp))
  · exact (s.bump_only _).mono (by simp)

theorem State.firedEffect_only (s : State) (t : Track) : s.changesOnly (s.firedEffect t) endParts := by
  unfold State.firedEffect
  split
  all_goals first | exact s.endTrack_only _ _ | exact (s.updateTrack_only _ _).mono (by simp)

theorem State.missedEffect_only (s : State) (t : Track) (c : PieceClass) :
    s.changesOnly (s.missedEffect t c) [.tracks, .tallies] := by
  unfold State.missedEffect
  split
  · exact (s.updateTrack_only _ _).mono (by simp)
  · exact s.arm_only _ _ _
  · exact s.recompute_only _ _ _ _
  all_goals exact .refl _ _

/-- A considered entry changes what its effect changes, and the tallies. -/
theorem State.matched_only (s : State) (o : OutcomeBody) (cSof : Count) (effect : State → Track → State) (ps : List Part)
    (h : ∀ (s : State) (t : Track), s.changesOnly (effect s t) ps) (tal : Part.tallies ∈ ps) : s.changesOnly (s.matched o cSof effect) ps := by
  unfold State.matched
  split
  · exact h _ _
  · exact (s.bump_only _).mono (by simpa using tal)

/-! ## Station state and own halt -/

theorem State.endShort_only (s : State) (id : Nat) : s.changesOnly (s.endShort id) endParts := by
  unfold State.endShort
  split
  · exact .refl _ _
  · exact s.endTrack_only _ _

theorem State.enterHeld_only (s : State) : s.changesOnly s.enterHeld holdParts := by
  unfold State.enterHeld
  dsimp only
  refine State.changesOnly.then (ps := holdParts) ?_ (State.raise_only _ _) (fun _ h => h) (by simp)
  refine State.changesOnly.then (ps := holdParts) ?_ (State.bump_only _ _) (fun _ h => h) (by simp)
  refine State.changesOnly.then (ps := holdParts) ?_
    (State.changesOnly.foldl (ps := endParts) State.endShort State.endShort_only s.firingOrder _) (fun _ h => h) (by simp)
  refine State.changesOnly.then (ps := [.mode, .freeCount]) ?_ (State.closeAllValves_only _) (by simp) (by simp)
  intro p hp; cases p <;> first | rfl | simp at hp

theorem State.settleMode_only (s : State) : s.changesOnly s.settleMode holdParts := by
  unfold State.settleMode
  split
  · exact .refl _ _
  · exact .ite _ (.refl _ _) s.enterHeld_only
  · refine .ite _ ?_ (.refl _ _)
    intro p hp; cases p <;> first | rfl | simp at hp

theorem State.ownFlag_only (s : State) (on : Bool) : s.changesOnly (s.ownFlag on) [.peers] := by
  unfold State.ownFlag
  split
  · exact .ite _ (s.updatePeer_only _ _) (.refl _ _)
  · exact .refl _ _

theorem State.addHalt_only (s : State) (id : Nat) : s.changesOnly (s.addHalt id) [.haltSet] := by
  intro p hp; cases p <;> first | rfl | simp at hp

theorem State.removeHalt_only (s : State) (id : Nat) : s.changesOnly (s.removeHalt id) [.haltSet] := by
  intro p hp; cases p <;> first | rfl | simp at hp

theorem State.ownHaltChanged_only (s : State) (was : Bool) (cause : HaltCause) :
    s.changesOnly (s.ownHaltChanged was cause) haltParts := by
  unfold State.ownHaltChanged
  refine .ite _ (.refl _ _) (.ite _ ?_ ?_)
  · refine State.changesOnly.then (ps := haltParts) ?_ (State.settleMode_only _) (fun _ h => h) (by simp)
    refine State.changesOnly.then (ps := [.haltSet, .peers]) ?_ (State.offer_only _ _) (by simp) (by simp)
    exact (s.addHalt_only _).then (State.ownFlag_only _ _) (by simp) (by simp)
  · refine State.changesOnly.then (ps := haltParts) ?_ (State.settleMode_only _) (fun _ h => h) (by simp)
    refine State.changesOnly.then (ps := [.haltSet, .peers]) ?_ (State.offer_only _ _) (by simp) (by simp)
    exact (s.removeHalt_only _).then (State.ownFlag_only _ _) (by simp) (by simp)

theorem State.setOperator_only (s : State) (on : Bool) : s.changesOnly (s.setOperator on) (.operatorHalt :: haltParts) := by
  unfold State.setOperator
  refine State.changesOnly.then (ps := [.operatorHalt]) ?_ (State.ownHaltChanged_only _ _ _) (by simp) (by simp)
  intro p hp; cases p <;> first | rfl | simp at hp

/-! ## Monitor unit -/

theorem State.setMonitor_only (s : State) (m : Monitor) : s.changesOnly { s with monitor := m } [.monitor] := by
  intro p hp; cases p <;> first | rfl | simp at hp

theorem State.setAir_only (s : State) (low : Bool) : s.changesOnly (s.setAir low) [.monitor, .flags] := by
  unfold State.setAir
  dsimp only
  exact .ite _ ((s.setMonitor_only _).then (State.raise_only _ _) (by simp) (by simp)) ((s.setMonitor_only _).mono (by simp))

theorem State.setChute_only (s : State) (notReady : Bool) : s.changesOnly (s.setChute notReady) [.monitor, .flags] := by
  unfold State.setChute
  dsimp only
  exact .ite _ ((s.setMonitor_only _).then (State.raise_only _ _) (by simp) (by simp)) ((s.setMonitor_only _).mono (by simp))

theorem State.setDoor_only (s : State) (isOpen : Bool) : s.changesOnly (s.setDoor isOpen) conditionParts :=
  (s.setMonitor_only _).then (State.ownHaltChanged_only _ _ _) (by simp) (by simp)

theorem State.setStop_only (s : State) (requested : Bool) : s.changesOnly (s.setStop requested) conditionParts :=
  (s.setMonitor_only _).then (State.ownHaltChanged_only _ _ _) (by simp) (by simp)

theorem State.setDoorStop_only (s : State) (isOpen requested : Bool) :
    s.changesOnly (s.setDoorStop isOpen requested) conditionParts := by
  have h : s.changesOnly { s with freeCount := s.freeCount + 1 } conditionParts := by
    intro p hp; cases p <;> first | rfl | simp at hp
  unfold State.setDoorStop
  dsimp only
  refine .ite _ (.ite _ ?_ ?_) ((s.setDoor_only _).trans (State.setStop_only _ _))
  · exact (h.trans (State.setDoor_only _ _)).trans (State.setStop_only _ _)
  · exact (h.trans (State.setStop_only _ _)).trans (State.setDoor_only _ _)

theorem State.evaluateConditions_only (s : State) : s.changesOnly s.evaluateConditions conditionParts := by
  unfold State.evaluateConditions
  dsimp only
  refine State.changesOnly.trans ?_ (State.setDoorStop_only _ _ _)
  exact (s.setAir_only _).then (State.setChute_only _ _) (by simp) (by simp)

theorem State.evaluateWatch_only (s : State) : s.changesOnly s.evaluateWatch [.monitor, .tallies, .flags] := by
  unfold State.evaluateWatch
  split
  case h_4 =>
    exact ((s.setMonitor_only _).then (State.bump_only _ _) (rs := [.monitor, .tallies, .flags]) (by simp) (by simp)).then
      (State.raise_only _ _) (fun _ h => h) (by simp)
  all_goals first | exact .refl _ _ | exact (s.setMonitor_only _).mono (by simp)

/-! ## Scan unit and belt counter -/

theorem State.handOver_only (s : State) (x : Sighting) : s.changesOnly (s.handOver x) [.localSightings] := by
  unfold State.handOver
  refine .ite _ ?_ (.refl _ _)
  intro p hp; cases p <;> first | rfl | simp at hp

theorem State.setScan_only (s : State) (u : ScanUnit) : s.changesOnly { s with scan := u } [.scan] := by
  intro p hp; cases p <;> first | rfl | simp at hp

theorem State.closeObject_only (s : State) (o : OpenObject) (cut : Bool) : s.changesOnly (s.closeObject o cut) scanParts := by
  unfold State.closeObject
  dsimp only
  refine .ite _ ((s.bump_only _).mono (by simp)) ?_
  refine State.changesOnly.then (ps := scanParts) ?_ (State.handOver_only _ _) (fun _ h => h) (by simp)
  exact (s.setScan_only _).then (State.offerSighting_only _ _) (by simp) (by simp)

theorem State.closeWorking_only (stamp : Count) (s : State) (w : Working) :
    s.changesOnly (State.closeWorking stamp s w) scanParts := by
  unfold State.closeWorking
  split
  · exact .refl _ _
  · exact s.closeObject_only _ _
  · exact s.closeObject_only _ _

theorem State.processScan_only (s : State) (stamp : Count) : s.changesOnly (s.processScan stamp) scanParts := by
  unfold State.processScan
  dsimp only
  refine State.changesOnly.trans ?_ (State.changesOnly.foldl _ (State.closeWorking_only stamp) _ _)
  refine .ite _ ((s.setScan_only _).mono (by simp)) ?_
  exact ((s.setScan_only _).then (State.bumpBy_only _ _ _) (rs := scanParts) (by simp) (by simp)).then
    (State.raise_only _ _) (fun _ h => h) (by simp)

theorem State.processWaiting_only (n : Nat) : ∀ (s : State) (stamp : Count), s.changesOnly (s.processWaiting stamp n) scanParts := by
  induction n with
  | zero => intro s _; exact .refl s _
  | succ n ih => intro s stamp; exact (s.processScan_only _).trans (ih _ _)

theorem State.skipScan_only (s : State) : s.changesOnly s.skipScan [.tallies, .flags] :=
  (s.bump_only _).then (State.raise_only _ _) (by simp) (by simp)

theorem State.ownScan_only (s : State) (stamp : Count) (void : Bool) (status : Byte) (mags : Vector Byte 32) :
    s.changesOnly (s.ownScan stamp void status mags) scanParts := by
  unfold State.ownScan
  refine .ite _ (.refl _ _) (.ite _ ?_ ?_)
  · exact State.changesOnly.then (ps := [.scan]) (s.setScan_only _) (State.processScan_only _ _) (by simp) (fun _ h => h)
  · exact s.skipScan_only.then (State.processScan_only _ _) (by simp) (fun _ h => h)

theorem State.scanEvent_only (s : State) : s.changesOnly s.scanEvent [.scan, .tallies, .flags] := by
  unfold State.scanEvent
  split
  · exact (s.setScan_only _).mono (by simp)
  · exact .ite _ (s.skipScan_only.mono (by simp)) ((s.setScan_only _).then (State.skipScan_only _) (by simp) (by simp))

theorem State.setBelt_only (s : State) (b : Belt) : s.changesOnly { s with belt := b } [.belt] := by
  intro p hp; cases p <;> first | rfl | simp at hp

theorem State.countPhase_only (s : State) : s.changesOnly s.countPhase [.belt, .scan, .tallies, .flags] := by
  unfold State.countPhase
  refine .ite _ (.ite _ ?_ ((s.setBelt_only _).mono (by simp))) (.refl _ _)
  exact (s.setBelt_only _).then (State.scanEvent_only _) (by simp) (by simp)

theorem State.advance_only (s : State) (stamp : Time) : s.changesOnly (s.advance stamp) beltParts := by
  unfold State.advance
  refine State.changesOnly.then (ps := [.belt, .scan, .tallies, .flags]) ?_ (State.beltEvents_only _ _) (by simp) (by simp)
  exact (s.setBelt_only _).then (State.countPhase_only _) (by simp) (by simp)

/-! ## Commands that may fall between two advances -/

/-- A command changes what its effect changes. -/
theorem State.act_only {f : State → State} {ps : List Part} (s : State) (h : s.changesOnly (f s) ps) :
    ∃ t, s.act f = .next t ∧ s.changesOnly t ps :=
  ⟨_, rfl, .ite _ (.refl _ _) h⟩

theorem execExchangeComplete_only (status : Byte) (mags : Vector Byte 32) (s : State) :
    ∃ t, execExchangeComplete status mags s = .next t ∧ s.changesOnly t scanParts := by
  refine s.act_only ?_
  split
  · exact .refl _ _
  · refine .ite _ ?_ (.refl _ _)
    refine State.changesOnly.then (ps := scanParts) ?_ (State.processWaiting_only _ _ _) (fun _ h => h) (fun _ h => h)
    exact (s.ownScan_only _ _ _ _).then (State.setScan_only _ _) (fun _ h => h) (by simp)

theorem State.setInbox_only (s : State) (es : List InboxEntry) : s.changesOnly { s with inbox := es } [.inbox] := by
  intro p hp; cases p <;> first | rfl | simp at hp

theorem execSightTaken_only (s : State) : ∃ t, execSightTaken s = .next t ∧ s.changesOnly t (.inbox :: trackParts) := by
  refine s.act_only ?_
  split
  · exact (s.setInbox_only _).then (State.workSighting_only _ _) (by simp) (by simp)
  · exact .refl _ _

theorem execLocalSightingTaken_only (s : State) :
    ∃ t, execLocalSightingTaken s = .next t ∧ s.changesOnly t (.localSightings :: trackParts) := by
  refine s.act_only ?_
  split
  · refine State.changesOnly.then (ps := [.localSightings]) ?_ (State.workSighting_only _ _) (by simp) (by simp)
    intro p hp; cases p <;> first | rfl | simp at hp
  · exact .refl _ _

theorem execClaimTaken_only (s : State) : ∃ t, execClaimTaken s = .next t ∧ s.changesOnly t [.inbox, .tracks, .tallies] := by
  refine s.act_only ?_
  split
  · refine .ite _ ?_ ((s.setInbox_only _).mono (by simp))
    exact (s.setInbox_only _).then (State.matched_only _ _ _ _ _ (fun s t => s.claimEffect_only t _) (by simp)) (by simp) (by simp)
  · exact .refl _ _

theorem execFiredTaken_only (s : State) : ∃ t, execFiredTaken s = .next t ∧ s.changesOnly t (.inbox :: endParts) := by
  refine s.act_only ?_
  split
  · refine .ite _ ?_ ((s.setInbox_only _).mono (by simp))
    exact (s.setInbox_only _).then (State.matched_only _ _ _ _ _ (fun s t => s.firedEffect_only t) (by simp)) (by simp) (by simp)
  · exact .refl _ _

theorem execMissedTaken_only (s : State) :
    ∃ t, execMissedTaken s = .next t ∧ s.changesOnly t [.inbox, .tracks, .tallies] := by
  refine s.act_only ?_
  split
  · refine .ite _ ?_ ((s.setInbox_only _).mono (by simp))
    exact (s.setInbox_only _).then (State.matched_only _ _ _ _ _ (fun s t => s.missedEffect_only t _) (by simp)) (by simp)
      (by simp)
  · exact .refl _ _

theorem execLineIdle_only (s : State) (startEdge : Bool) :
    ∃ t, execLineIdle s startEdge = .next t ∧ s.changesOnly t linkParts := by
  refine s.act_only ?_
  split
  iterate 2 exact .refl _ _
  all_goals
    refine .ite _ (s.latch_only.mono (by simp)) ?_
    refine State.changesOnly.then (ps := [.line]) ?_ (State.begin_only _) (by simp) (by simp)
    intro p hp; cases p <;> first | rfl | simp at hp

theorem execStartEdgeLatch_only (s : State) : ∃ t, execStartEdgeLatch s = .next t ∧ s.changesOnly t [.line] := by
  refine s.act_only ?_
  split
  iterate 3 exact .refl _ _
  exact s.latch_only

theorem execBeaconDue_only (s : State) : ∃ t, execBeaconDue s = .next t ∧ s.changesOnly t linkParts := by
  refine s.act_only ?_
  split
  · exact .refl _ _
  · refine .ite _ ?_ (.refl _ _)
    refine State.changesOnly.then (ps := [.tx, .tallies]) ?_ (State.begin_only _) (by simp) (by simp)
    refine State.changesOnly.then (ps := [.tx]) ?_ (State.placeStatus_only _) (by simp) (by simp)
    intro p hp; cases p <;> first | rfl | simp at hp

theorem execMonitorSample_only (levels : Byte) (s : State) :
    ∃ t, execMonitorSample levels s = .next t ∧ s.changesOnly t conditionParts := by
  refine s.act_only ?_
  refine .ite _ ?_ (.refl _ _)
  have h : s.changesOnly (s.sampleInputs levels).evaluateConditions conditionParts :=
    (s.setMonitor_only _).then (State.evaluateConditions_only _) (by simp) (fun _ h => h)
  exact .ite _ (h.then (State.evaluateWatch_only _) (fun _ h => h) (by simp)) h

theorem execTOpenDue_only (s : State) : ∃ t, execTOpenDue s = .next t ∧ s.changesOnly t flightParts :=
  s.act_only (State.changesOnly.foldl _ State.request_only _ s)

theorem execHaltAssert_only (s : State) :
    ∃ t, execHaltAssert s = .next t ∧ s.changesOnly t (.response :: .outgoing :: .operatorHalt :: haltParts) :=
  s.act_only ((s.setOperator_only _).then (State.answer_only _ _ _) (by simp) (by simp))

theorem execHaltRelease_only (s : State) :
    ∃ t, execHaltRelease s = .next t ∧ s.changesOnly t (.response :: .outgoing :: .operatorHalt :: haltParts) :=
  s.act_only ((s.setOperator_only _).then (State.answer_only _ _ _) (by simp) (by simp))

theorem State.ownEntry_only (s : State) : s.changesOnly s.ownEntry [.peers] := by
  unfold State.ownEntry
  split
  · exact s.updatePeer_only _ _
  · exact .refl _ _

theorem State.startHalt_only (s : State) : s.changesOnly s.startHalt [.tx, .tallies] := by
  unfold State.startHalt
  exact .ite _ (s.enqueueUrgent_only _) (.refl _ _)

theorem State.started_only (s : State) : s.changesOnly s.started startParts := by
  unfold State.started
  dsimp only
  refine State.changesOnly.then (ps := startParts) ?_ (State.begin_only _) (fun _ h => h) (by simp)
  refine State.changesOnly.then (ps := startParts) ?_ (State.settleMode_only _) (fun _ h => h) (by simp)
  refine State.changesOnly.then (ps := startParts) ?_ (State.evaluateWatch_only _) (fun _ h => h) (by simp)
  refine State.changesOnly.then (ps := startParts) ?_ (State.startHalt_only _) (fun _ h => h) (by simp)
  refine State.changesOnly.then (ps := startParts) ?_ (State.placeStatus_only _) (fun _ h => h) (by simp)
  refine State.changesOnly.then (ps := startParts) ?_ (State.ownEntry_only _) (fun _ h => h) (by simp)
  intro p hp; cases p <;> first | rfl | simp at hp

theorem execStart_only (s : State) : ∃ t, execStart s = .next t ∧ s.changesOnly t startParts := by
  refine s.act_only (.ite _ ((s.answer_only _ _).mono (by simp)) (.ite _ ?_ ((s.answer_only _ _).mono (by simp))))
  exact s.started_only.then (State.answer_only _ _ _) (fun _ h => h) (by simp)

theorem State.through_only {o : Host.Outcome State Fault Refusal} {ps qs : List Part} (s : State)
    (h : ∃ t, o = .next t ∧ s.changesOnly t ps) (sub : ∀ p ∈ ps, p ∈ qs) : s.changesOnly (s.through o) qs := by
  obtain ⟨t, rfl, h⟩ := h
  exact h.mono sub

/-- What falls between two advances leaves reset, straps, record, copies and queue alone. -/
theorem State.meet_only (s : State) (e : Between) : s.changesOnly (s.meet e) betweenParts := by
  unfold State.meet
  cases e with
  | portValue => exact s.formValue_only.mono (by simp)
  | exchangeComplete a b => exact s.through_only (execExchangeComplete_only a b s) (by simp)
  | localSightingTaken => exact s.through_only (execLocalSightingTaken_only s) (by simp)
  | lineIdle startEdge => exact s.through_only (execLineIdle_only s startEdge) (by simp)
  | startEdgeLatch => exact s.through_only (execStartEdgeLatch_only s) (by simp)
  | beaconDue => exact s.through_only (execBeaconDue_only s) (by simp)
  | monitorSample a => exact s.through_only (execMonitorSample_only a s) (by simp)
  | sightTaken => exact s.through_only (execSightTaken_only s) (by simp)
  | claimTaken => exact s.through_only (execClaimTaken_only s) (by simp)
  | firedTaken => exact s.through_only (execFiredTaken_only s) (by simp)
  | missedTaken => exact s.through_only (execMissedTaken_only s) (by simp)
  | tOpenDue => exact s.through_only (execTOpenDue_only s) (by simp)
  | start => exact s.through_only (execStart_only s) (by simp)
  | haltAssert => exact s.through_only (execHaltAssert_only s) (by simp)
  | haltRelease => exact s.through_only (execHaltRelease_only s) (by simp)

/-- The advances of an edge with nothing between them. -/
theorem State.advances_only (stamp : Time) (n : Nat) : ∀ s : State, s.changesOnly (s.advances stamp n []) beltParts := by
  induction n with
  | zero => intro s; exact .refl s _
  | succ n ih => intro s; exact (s.advance_only stamp).trans (ih _)

/-- The advances of an edge with what falls between them. -/
theorem State.advances_between_only (stamp : Time) (n : Nat) :
    ∀ (s : State) (between : List (List Between)), s.changesOnly (s.advances stamp n between) betweenParts := by
  induction n with
  | zero => intro s _; exact .refl s _
  | succ n ih =>
    intro s between
    match between with
    | [] => exact ((s.advance_only stamp).mono (by simp)).trans (ih _ _)
    | gap :: rest =>
      refine State.changesOnly.trans ?_ (ih _ rest)
      refine .ite _ ((s.advance_only stamp).mono (by simp)) ?_
      exact ((s.advance_only stamp).mono (by simp)).trans (State.changesOnly.foldl _ State.meet_only gap _)

/-! ## Link receiver -/

theorem State.countGap_only (s : State) (g : Nat) : s.changesOnly (s.countGap g) [.tallies, .flags] := by
  unfold State.countGap
  exact .ite _ (.refl _ _) ((s.bumpBy_only _ _).then (State.raise_only _ _) (by simp) (by simp))

theorem State.hearPeer_only (s : State) (id : Fin 24) (sequence : Byte) :
    s.changesOnly (s.hearPeer id sequence) [.peers, .tallies, .flags] :=
  (s.countGap_only _).then (State.updatePeer_only _ _ _) (by simp) (by simp)

theorem State.peerHalt_only (s : State) (id : Fin 24) (on : Bool) : s.changesOnly (s.peerHalt id on) frameParts := by
  unfold State.peerHalt
  dsimp only
  refine State.changesOnly.then (ps := [.haltSet, .peers]) ?_ (State.settleMode_only _) (by simp) (by simp)
  refine .ite _ ?_ ?_
  · exact (s.updatePeer_only _ _).then (State.addHalt_only _ _) (by simp) (by simp)
  · exact (s.updatePeer_only _ _).then (State.removeHalt_only _ _) (by simp) (by simp)

theorem State.takeStatus_only (s : State) (id : Fin 24) (b : StatusBody) : s.changesOnly (s.takeStatus id b) frameParts :=
  (s.updatePeer_only _ _).then (State.peerHalt_only _ _ _) (by simp) (fun _ h => h)

theorem State.offerInbox_only (s : State) (e : InboxEntry) : s.changesOnly (s.offerInbox e) [.inbox, .tallies, .flags] := by
  unfold State.offerInbox
  refine .ite _ (.ite _ ((s.bump_only _).then (State.raise_only _ _) (by simp) (by simp)) ?_) (.refl _ _)
  intro p hp; cases p <;> first | rfl | simp at hp

theorem State.route_only (s : State) (id : Fin 24) (b : Body) : s.changesOnly (s.route id b) frameParts := by
  unfold State.route
  split
  · exact s.peerHalt_only _ _
  · exact s.takeStatus_only _ _
  all_goals exact (s.offerInbox_only _).mono (by simp)

theorem State.offerCopy_only (s : State) (f : WireFrame) (k : FrameKind) : s.changesOnly (s.offerCopy f k) [.copies, .tallies] := by
  unfold State.offerCopy
  refine .ite _ (.ite _ ((s.bump_only _).mono (by simp)) ?_) (.refl _ _)
  intro p hp; cases p <;> first | rfl | simp at hp

theorem State.acceptedFrame_only (s : State) (own : Bool) (f : WireFrame) (b : Body) :
    s.changesOnly (s.acceptedFrame own f b) frameParts := by
  unfold State.acceptedFrame
  refine .ite _ ((s.offerCopy_only _ _).mono (by simp)) (.ite _ ?_ ?_)
  · exact (s.bump_only _).then (State.raise_only _ _) (by simp) (by simp)
  · split
    · refine State.changesOnly.then (ps := frameParts) ?_ (State.offerCopy_only _ _ _) (fun _ h => h) (by simp)
      exact (s.hearPeer_only _ _).then (State.route_only _ _ _) (by simp) (fun _ h => h)
    · exact .refl _ _

end Sys2Proof.Machine
end

