-- ==== Sys2Proof/Laws/Values.lean ====
section
/-! SUPPORT. What the shared operations give: orders and places in lists, tallies and flags, the end of a track, the modular
order, and the two cases of a step. -/

namespace Sys2Proof.Machine

/-! ## Orders and places -/

/-- A free order is an order of the same elements. -/
theorem arrange_perm {α : Type} (n : Nat) : ∀ (k : Nat) (xs : List α), xs.length ≤ n → (arrange k n xs).Perm xs := by
  induction n with
  | zero =>
    intro k xs h
    have : xs = [] := List.length_eq_zero_iff.mp (by omega)
    subst this; exact .refl _
  | succ n ih =>
    intro k xs h
    match xs, h with
    | [], _ => exact .refl _
    | [x], _ => exact .refl _
    | x :: y :: rest, h =>
      have hi : Config.freePick k % (x :: y :: rest).length < (x :: y :: rest).length :=
        Nat.mod_lt _ (by simp)
      have hl : ((x :: y :: rest).eraseIdx (Config.freePick k % (x :: y :: rest).length)).length ≤ n := by
        rw [List.length_eraseIdx_of_lt hi]; simp only [List.length_cons] at h ⊢; omega
      simp only [arrange, List.getElem?_eq_getElem hi, Option.toList_some, List.singleton_append]
      exact ((ih (k + 1) _ hl).cons _).trans (List.getElem_cons_eraseIdx_perm hi)

theorem placeTrack_perm (current : Count) (t : Track) (ts : List Track) : (placeTrack current t ts).Perm (t :: ts) := by
  induction ts with
  | nil => exact .refl _
  | cons u rest ih =>
    simp only [placeTrack]
    split
    · exact .refl _
    · exact (ih.cons u).trans (.swap t u rest)

/-- The runs of a scan are handled one after another, each on the list that the one before it left. -/
theorem handleRuns_foldl (stamp : Count) (mags : Vector Byte 32) (conts : List Span) (runs : List Span) :
    ∀ (ws : List Working) (n : Nat),
      runs.foldl (fun (acc : List Working × Nat) run =>
          let h := handleRun stamp mags conts acc.1 run
          (h.1, acc.2 + if h.2 then 1 else 0)) (ws, n) =
        ((handleRuns stamp mags conts ws runs).1, n + (handleRuns stamp mags conts ws runs).2) := by
  induction runs with
  | nil => intro ws n; rfl
  | cons run rest ih => intro ws n; simp only [List.foldl_cons, handleRuns, ih, Nat.add_assoc]

/-- The command byte decides whether a byte is one of Table 10-1: codes 1 to 17. -/
theorem knownCommand_iff (code : Byte) : knownCommand code = (decide (1 ≤ code.toNat) && decide (code.toNat ≤ 17)) := by
  revert code; decide

theorem placeFlight_perm (now : Time) (e : FlightEntry) (ds : List FlightEntry) : (placeFlight now e ds).Perm (e :: ds) := by
  induction ds with
  | nil => exact .refl _
  | cons d rest ih =>
    simp only [placeFlight]
    split
    · exact .refl _
    · exact (ih.cons d).trans (.swap e d rest)

theorem placeServed_perm (s : State) (t : Track) (ts : List Track) : (s.placeServed t ts).Perm (t :: ts) := by
  induction ts with
  | nil => exact .refl _
  | cons u rest ih =>
    simp only [State.placeServed]
    split
    · exact .refl _
    · exact (ih.cons u).trans (.swap t u rest)

/-- A track put into a table splits it where it stands first before another. -/
theorem placeTrack_splits (current : Count) (t : Track) (ts : List Track) :
    ∃ front back, ts = front ++ back ∧ placeTrack current t ts = front ++ t :: back
      ∧ (∀ u ∈ front, standsBefore current t u = false) ∧ (∀ u, back.head? = some u → standsBefore current t u = true) := by
  induction ts with
  | nil => exact ⟨[], [], rfl, rfl, by simp, by simp⟩
  | cons u rest ih =>
    by_cases h : standsBefore current t u = true
    · exact ⟨[], u :: rest, rfl, by simp [placeTrack, h], by simp, by simp [h]⟩
    · obtain ⟨front, back, e, p, hf, hb⟩ := ih
      refine ⟨u :: front, back, by simp [e], by simp [placeTrack, h, p], ?_, hb⟩
      intro v hv
      rcases List.mem_cons.mp hv with rfl | hv
      · simpa using h
      · exact hf v hv

/-! ## Modular order -/

theorem earlier_mem {w : Nat} (a b : BitVec w) : earlier a b = a ∨ earlier a b = b := by
  unfold earlier; split
  · exact .inl rfl
  · exact .inr rfl

theorem later_mem {w : Nat} (a b : BitVec w) : later a b = a ∨ later a b = b := by
  unfold later; split
  · exact .inr rfl
  · exact .inl rfl

theorem ahead_iff {w : Nat} (a b : BitVec w) : ahead a b = true ↔ atOrBefore a b = false := by simp [ahead]

/-! ## Tallies and flags -/

theorem Tally.index_injective {x y : Tally} (h : x.index = y.index) : x = y := by
  cases x <;> cases y <;> first
    | rfl
    | (rename_i c d; cases c <;> cases d <;> first | rfl | (simp [Tally.index] at h))
    | (rename_i c; cases c <;> simp [Tally.index] at h)
    | simp [Tally.index] at h

theorem Flag.bit_injective {f g : Flag} (h : f.bit = g.bit) : f = g := by
  cases f <;> cases g <;> first | rfl | simp [Flag.bit] at h

theorem addTally_toNat (v : BitVec 32) (n : Nat) : (addTally v n).toNat = min 4294967295 (v.toNat + n) := by
  simp only [addTally, addUpTo, BitVec.toNat_ofNat]
  omega

theorem addTally_zero (v : BitVec 32) : addTally v 0 = v := by
  apply BitVec.eq_of_toNat_eq
  rw [addTally_toNat]
  have := v.isLt
  omega

/-- A tally bumped has advanced, the others have not. -/
theorem State.bumpBy_counts (s : State) (x : Tally) (n : Nat) : s.counts (s.bumpBy x n) x n := by
  simp only [State.counts, State.tally, State.bumpBy]
  have : (s.tallies.set x.index (addTally s.tallies[x.index] n))[x.index] = addTally s.tallies[x.index] n := by
    simp
  rw [this, addTally_toNat]

theorem State.bumpBy_counts_other (s : State) (x y : Tally) (n : Nat) (h : y ≠ x) : (s.bumpBy x n).tally y = s.tally y :=
  s.bumpBy_tally_other x y n fun e => h (Tally.index_injective e).symm

theorem State.raise_sets (s : State) (f g : Flag) : (s.raise f).flagSet g = (decide (g = f) || s.flagSet g) := by
  by_cases h : g = f
  · subst h
    simp [State.flagSet, State.raise]
  · rw [s.raise_flagSet_other f g fun e => h (Flag.bit_injective e.symm)]
    simp [h]

/-! ## Tracks -/

/-- In a sound table a track is found by its number. -/
theorem State.findTrack_of_mem (s : State) (t : Track) (sound : (s.tracks.map Track.made).Nodup) (h : t ∈ s.tracks) :
    s.findTrack t.made = some t := by
  unfold State.findTrack
  induction hs : s.tracks generalizing s with
  | nil => simp [hs] at h
  | cons u rest ih =>
    rw [hs] at h sound
    simp only [List.map_cons, List.nodup_cons] at sound
    rcases List.mem_cons.mp h with rfl | h
    · simp
    · have hne : (u.made == t.made) = false := by
        simp only [beq_eq_false_iff_ne]
        intro e
        exact sound.1 (e ▸ List.mem_map_of_mem h)
      rw [List.find?_cons_of_neg (by simp [hne])]
      exact ih { s with tracks := rest } sound.2 h rfl

/-- The end of a track, said whole (R103): table, tally, trace and latest slot. -/
theorem State.endTrack_ends (s : State) (t : Track) (e : TrackEnd) : s.endedWith (s.endTrack t e) t e := by
  have hx : ∀ x : Tally, x ≠ .double → s.counts (((s.removeTrack t.made).bump x).bump .double) x 1 := fun x hne => by
    have a := ((s.removeTrack t.made).bump x).bumpBy_counts_other .double x 1 hne
    have b := (s.removeTrack t.made).bumpBy_counts x 1
    simp only [State.counts, State.bump] at a b ⊢
    rw [a]
    exact b
  refine ⟨?_, ?_, ?_⟩
  · have hf : (fun v : Track => v.made != t.made) = fun v => decide (v.made ≠ t.made) := by
      funext v; by_cases h : v.made = t.made <;> simp [h]
    simp only [State.endTrack, State.countEnd, State.record32_keeps]
    split <;> simp only [State.bump_keeps, State.removeTrack_tracks, hf]
  · simp only [State.endTrack, State.countEnd]
    split
    · cases e <;> exact hx _ (by simp [TrackEnd.tally])
    · cases e <;> exact (s.removeTrack t.made).bumpBy_counts _ 1
  · simp only [State.endTrack, State.countEnd, State.wroteTrace]
    split <;> exact ⟨rfl, rfl⟩

/-! ## The values of a response (R166) -/

/-- What is formed now is a first part of the values, in order; the rest stands, unless nothing is left. -/
theorem State.formNow_forms (s : State) (values : List PortValue) : ∀ waits : List Nat, ∃ k,
    (s.formNow values waits).1 = (values.take k).flatMap s.valueBytes
    ∧ (((s.formNow values waits).2 = none ∧ k = values.length)
        ∨ ∃ o, (s.formNow values waits).2 = some o ∧ o.values = values.drop k ∧ k < values.length) := by
  induction values with
  | nil => intro waits; exact ⟨0, rfl, .inl ⟨rfl, rfl⟩⟩
  | cons v rest ih =>
    intro waits
    match waits with
    | [] =>
      obtain ⟨k, hk, h⟩ := ih []
      refine ⟨k + 1, by simp [State.formNow, hk], ?_⟩
      simpa [State.formNow] using h
    | 0 :: waits =>
      obtain ⟨k, hk, h⟩ := ih waits
      refine ⟨k + 1, by simp [State.formNow, hk], ?_⟩
      simpa [State.formNow] using h
    | (w + 1) :: waits => exact ⟨0, rfl, .inr ⟨_, rfl, rfl, by simp⟩⟩

/-- A response goes on by the bytes of a first part of its values, the rest being left to form. -/
theorem State.goOn_forms (s : State) (values : List PortValue) (waits : List Nat) : ∃ k,
    (s.goOn values waits).response = s.response ++ (values.take k).flatMap s.valueBytes
    ∧ (((s.goOn values waits).outgoing = none ∧ k = values.length)
        ∨ ∃ o, (s.goOn values waits).outgoing = some o ∧ o.values = values.drop k ∧ k < values.length) := by
  obtain ⟨k, hk, h⟩ := s.formNow_forms values waits
  exact ⟨k, by simp only [State.goOn, hk], h⟩

/-! ## The step -/

theorem step_front (s : State) (c : Instr) (rest : List Instr) (h : s.pending = c :: rest) :
    step s = exec c { s with pending := rest } := by
  simp [step, h]

theorem step_idle (s : State) (h : s.pending = []) : step s = .next s.idle := by simp [step, h]

end Sys2Proof.Machine
end

