-- ==== Sys2Proof/WellFormed.lean ====
section
/-! DEFINITION. Which commands are well formed: the operands are ones the row's event can bring. -/

namespace Sys2Proof

open Machine

/-- The payload has the length its kind code gives (R59, Table 3-1). A frame whose kind code is 6 or 7, or whose sender id is
24..31, is discarded at the end of its arbitration field (R60), so nothing is asked of its payload. -/
def WireFrame.wellFormed (f : WireFrame) : Bool :=
  match FrameKind.ofCode? f.kind.toNat with
  | none => true
  | some k => f.payload.length == k.payloadBytes || 24 ≤ f.sender.toNat

/-- Well-formed commands: FRAME_RECEIVED carries a payload of its kind's length, WRITE_CONFIG as many data bytes as its
count gives (R169), UNKNOWN_COMMAND a byte that is not in Table 10-1 (R167); between the advances of an edge, at most 10 (R11),
there are at most 9 gaps; a wait at the port stays below 2^31 microseconds (R9). -/
def Instr.wellFormed : Instr → Bool
  | .frameReceived f => f.wellFormed
  | .writeConfig _ count data => data.length == count.toNat
  | .unknownCommand code => !knownCommand code
  | .encoderEdge _ _ between => decide (between.length ≤ 9)
  | .readState waits | .readFlags waits | .readTallies waits | .readPeers waits => waits.all fun w => decide (w < 2147483648)
  | .stall | .exchangeComplete _ _ | .localSightingTaken | .lineIdle _ | .startEdgeLatch
  | .arbitrationLost _ | .bitError | .attemptComplete | .beaconDue | .peerLossDue _ | .monitorSample _
  | .sightTaken | .claimTaken | .firedTaken | .missedTaken | .tOpenDue | .coastingTOpen _ | .tCloseDue _
  | .closeAtDue _ | .recoverUntilDue _ | .readIdent | .readConfig | .start | .restart | .clearFlags _ | .clearTallies | .haltAssert | .haltRelease | .clearHalt _
  | .readTrace | .readLatest | .readCopy | .transactionAbandon | .resetAssert | .coldStart _ => true

end Sys2Proof
end

