-- ==== Sys2Proof/Tests/Slice0.lean ====
section
/-! SUPPORT. The model's own tests: WellFormed's checks, worked cases of spec/ for single commands, and for each statement with
hypotheses a concrete state and operands that meet them. -/

namespace Sys2Proof.Tests

set_option maxRecDepth 100000

open Sys2Proof Sys2Proof.Machine

/-! ## Helpers -/

/-- The state a command answers. -/
def after (o : Host.Outcome State Fault Refusal) : State :=
  match o with
  | .next t => t
  | .fault _ => State.reset
  | .refused _ => State.reset

/-- A station with id 9 in SETUP, and in RUN. -/
def idle : State := State.cold 9 0 []
def running : State := { idle with mode := .run }

def clockAt (s : State) (now : Nat) : State := { s with belt := { s.belt with timebase := BitVec.ofNat 32 now } }
def countAt (s : State) (count : Nat) : State := { s with belt := { s.belt with count := BitVec.ofNat 24 count } }
def withByte (s : State) (offset value : Nat) : State := { s with record := s.record.setByte offset (byteOf value) }

/-- The same with its line idle. -/
def quiet (s : State) : State := { s with line := { s.line with status := .idle } }

/-- The wire tangle of Table 5-5 as a track, in a state of its life. -/
def piece (state : TrackState) : Track :=
  { made := 0, anchorId := 3, anchorSerial := 40, aLead := 1000, aTrail := 1119, laneFirst := 4, laneLast := 6
    scores := ⟨2160, 900, 0, 240, 0⟩, state := state, cls := .unknown, mark := none, degraded := false, oversize := false
    trimmed := false, double := false, short := false, flight := none, valveSet := none }

/-- The same in flight, class METAL, t_open and t_close given. -/
def flying (state : TrackState) (tOpen tClose : Nat) : Track :=
  { piece state with
    cls := .metal
    flight := some { launchTime := 0, delta := 5333, tOpen := BitVec.ofNat 32 tOpen, tClose := BitVec.ofNat 32 tClose }
    valveSet := if state = .firing then some [4, 5, 6] else none }

def holding (s : State) (ts : List Track) : State := { s with tracks := ts, nextMade := 2 }

/-! ## WellFormed -/

theorem test_wellFormed_frame_of_wrong_length_refused :
    Instr.wellFormed (.frameReceived { frameOf 3 0 (.halt true .door) with payload := [129, 0] }) = false := by decide
theorem test_wellFormed_sent_frame : Instr.wellFormed (.frameReceived (frameOf 3 0 (.halt true .door))) = true := by decide
theorem test_wellFormed_write_with_bytes_missing_refused : Instr.wellFormed (.writeConfig 0 3 [1, 170]) = false := by decide
theorem test_wellFormed_listed_command_is_not_unknown : Instr.wellFormed (.unknownCommand 17) = false := by decide
theorem test_wellFormed_unlisted_command : Instr.wellFormed (.unknownCommand 18) = true := by decide
/-- P is at least 100, so an edge has at most ten advances and nine gaps. -/
theorem test_wellFormed_ten_gaps_refused : Instr.wellFormed (.encoderEdge true true (List.replicate 10 [])) = false := by decide
theorem test_wellFormed_long_wait_refused : Instr.wellFormed (.readState [2147483648]) = false := by decide
/-- Table 10-1: command bytes 4 and 17, and CLEAR-FLAGS with its mask bytes 1 and 2, the high one first (R176). -/
theorem test_words_of_table_10_1 :
    [decodeTableWord 8 4, decodeTableWord 8 17, decodeTableWord 24 0x020108, decodeTableWord 0 0] =
      [some .start, some .readCopy, some (.clearFlags 0x0102), none] := by decide
/-- Table 10-2, step 1: 2, 0, 3, 1, 170, 32 on the port; and the same released before its last byte (R166, R169). -/
theorem test_write_transaction :
    (transactionCommand [2, 0, 3, 1, 170, 32], transactionCommand [2, 0, 3, 1, 170]) =
      (.writeConfig 0 3 [1, 170, 32], .transactionAbandon) := by decide

/-! ## Worked cases of spec/ -/

/-- R3 with P = 1,500: the third edge makes the second advance. -/
theorem test_edges_at_pitch_1500 :
    let s := withByte (withByte running 8 5) 9 220
    let t := after (exec (.encoderEdge true true) (after (exec (.encoderEdge true true) s)))
    (t.belt.count, t.belt.accumulator) = (1, 500) := by decide
/-- An edge of four advances: P = 250. -/
def fourfold (s : State) : State := withByte (withByte s 8 0) 9 250
/-- R10: a start edge between the second and the third of four advances latches the count as it stands there. -/
theorem test_latch_between_advances :
    let t := after (exec (.encoderEdge true true [[], [.startEdgeLatch]]) (fourfold (quiet running)))
    (t.belt.count, t.line.cSof) = (4, 2) := by decide
/-- R20, R166: the belt count of a READ-STATE formed between the same two advances, the mode formed before the edge, the timebase
after it. -/
theorem test_response_straddles_an_edge :
    let s := clockAt (after (exec (.readState [0, 1]) (fourfold running))) 1
    let t := after (exec (.encoderEdge true true [[], [.portValue]]) s)
    (t.belt.count, t.response.take 9) = (4, [0, 1, 0, 0, 2, 0, 0, 0, 1]) := by decide
/-- R178: two tallies on either side of an event: REVERSE is formed before a reverse edge, STALL and the rest after it, from the
part on its own. -/
theorem test_tallies_straddle_an_event :
    let s := after (exec (.encoderEdge true false) (after (exec (.readTallies [0, 5]) running)))
    ((clockAt s 5).idle.response.take 5, s.tally .reverse) = ([0, 0, 0, 0, 0], 1) := by decide
/-- R45: a dominant bit before the line is idle begins no frame; one that comes at the instant of idle is received, and the
station's own frame waits. -/
theorem test_start_edge_before_idle : (after (exec .startEdgeLatch (countAt idle 5))).line.status = .waiting := by decide
theorem test_start_edge_taken_before_own_start :
    let t := after (exec (.lineIdle true) { running with tx := { running.tx with beacon := some 0 } })
    (t.line.status, t.tx.attempt) = (.receiving false, none) := by decide
/-- R6: the belt count wraps. -/
theorem test_count_wraps : (after (exec (.encoderEdge true true) (countAt idle 16777215))).belt.count = 0 := by decide
/-- R47: the CRC of CRC-16/CCITT-FALSE's check string. -/
theorem test_crc_check_string : crcOf [0x31, 0x32, 0x33, 0x34, 0x35, 0x36, 0x37, 0x38, 0x39] = 0x29B1 := by decide
/-- Table 6-2: the class of six sets of scores, with T = 1,000 and M = 200. -/
theorem test_class_decisions :
    [(⟨2160, 900, 0, 240, 0⟩ : Scores), ⟨1100, 950, 0, 0, 0⟩, ⟨0, 900, 0, 0, 0⟩, ⟨0, 1500, 0, 1500, 0⟩,
      ⟨65535, 65535, 0, 0, 0⟩, ⟨0, 0, 1200, 0, 0⟩].map (fun x => x.classOf 1000 200) =
      [.metal, .unknown, .unknown, .unknown, .unknown, .foam] := by decide
/-- Table 8-1: t_open of the METAL piece at 3.0 m/s (drift +5), and its trimmed duration. -/
theorem test_flight_of_table_8_1 :
    let r := idle.record.setByte 36 5
    let f := r.flightOf { piece .armed with cls := .metal } 7000000 5333
    (f.tOpen, f.tClose, r.trims 120 5333) = (7098327, 7138327, true) := by decide
/-- Table 8-2: a curtain at the belt head opens at the launch. -/
theorem test_flight_at_belt_head :
    let r := ((idle.record.setWord 33 8).setByte 38 226).setWord 81 5000
    let f := r.flightOf { piece .armed with cls := .foam, aTrail := 1003 } 11000000 2666
    (f.tOpen, f.tClose) = (11000000, 11005000) := by decide
/-- Section 9.6: a shared valve extended to its cap. -/
theorem test_shared_valve_extended : serveValve 2020000 2055000 40000 (.opened 2000000 2030000) = .opened 2000000 2040000 := by
  decide
/-- Section 9.3: the firing set of lanes 30..31 under a window 32..63 with spread 1 is valve 0. -/
theorem test_firing_set_at_window_edge :
    let s := withByte (withByte idle 1 32) 80 1
    s.record.firingSet { piece .launched with laneFirst := 30, laneLast := 31 } = [0] := by decide
/-- Section 2.5's second worked case: the strip F is cut at 5,400 with length 402, and its span continues. -/
theorem test_cut_leaves_its_span :
    let f : OpenObject := ⟨5000, 5398, ⟨10, 14⟩, ⟨10, 14⟩, 995, 99500, 100, false⟩
    let s := { running with scan := { running.scan with
      heldPresence := 0x7C00, lastRaw := 0x7C00, filtered := 0x7C00, objects := [f] } }
    let t := s.processScan 5400
    (t.scan.objects, t.scan.continuations, t.tx.sightings.map fun e => (e.sighting.lead, e.sighting.length, e.sighting.cut)) =
      ([], [⟨10, 14⟩], [(4998, 402, true)]) := by decide
/-- Table 10-2, steps 1 and 3: 170 + 32 lanes are written, and START answers LANES. -/
theorem test_start_refuses_lanes :
    let s := after (exec (.writeConfig 0 3 [1, 170, 32]) idle)
    (s.response, (after (exec .start s)).response, (after (exec .start s)).mode) = ([0, 3], [4], .setup) := by decide
/-- R170: the minimum pulse written above the maximum open time is lowered to it. -/
theorem test_write_lowers_minimum_pulse :
    (after (exec (.writeConfig 81 4 [78, 32, 19, 136]) idle)).record.minPulse = 5000 := by decide
/-- R168: READ-IDENT. -/
theorem test_read_ident : (after (exec .readIdent idle)).response = [0, 164, 1, 9] := by decide
/-- R180: READ-LATEST of an empty slot. -/
theorem test_read_latest_empty : (after (exec .readLatest idle)).response.length = 15 := by decide
/-- R76: the own id cannot be cleared, a silent peer's can. -/
theorem test_clear_halt :
    ((after (exec (.clearHalt 9) idle)).response, (after (exec (.clearHalt 5) idle)).response) = ([1], [0]) := by decide
/-- R52: the first STATUS after START, and its due time. -/
theorem test_start_places_status :
    let t := after (exec .start idle)
    (t.mode, t.tx.beacon, t.tx.beaconDue) = (.run, some 0, some 100000) := by decide

/-! ## Witnesses: the hypotheses of each statement, met -/

/-- A FIRING track with its valves open, from 0 to its t_close, at a BOTH station in RUN. -/
def firing : State :=
  { holding (withByte running 0 2) [flying .firing 0 30000] with
    valves := Vector.ofFn fun i => if 4 ≤ i.val ∧ i.val ≤ 6 then .opened 0 30000 else .closed }

theorem witness_StepRunsFrontCommand : { idle with pending := [.stall] }.pending = [.stall] := by rfl

theorem witness_IdleStepFollowsTheClock :
    ({ idle with inReset := true }.pending = [] ∧ { idle with inReset := true }.inReset = true)
    ∧ (let s := { idle with tx := { idle.tx with beaconDue := some 0 } }
       s.pending = [] ∧ s.inReset = false ∧ s.dueCommands ≠ [])
    ∧ (let s := { idle with localSightings := [⟨9, 0, .optical, 0, 0, 0, 0, 2, 4, .unknown, 0, 64, false, false⟩] }
       s.pending = [] ∧ s.inReset = false ∧ s.dueCommands = [] ∧ s.localSightings ≠ [])
    ∧ (let s := clockAt idle 1000
       s.pending = [] ∧ s.inReset = false ∧ s.dueCommands = [] ∧ s.localSightings = [] ∧ s.awaitsOutside = true)
    ∧ (let s := clockAt idle 999
       s.pending = [] ∧ s.inReset = false ∧ s.dueCommands = [] ∧ s.localSightings = [] ∧ s.awaitsOutside = false)
    ∧ (∀ s ∈ [idle, { idle with tx := { idle.tx with beaconDue := some 0 } }],
       ∃ o, { s with outgoing := some { values := [.flags], waits := [], due := 0 } }.outgoing = some o
         ∧ atOrBefore o.due s.belt.timebase ∧ s.pending = [] ∧ s.inReset = false)
    ∧ idle.dueCommands = [] ∧ idle.localSightings = [] := by
  refine ⟨by decide, by decide, by decide, by decide, by decide, fun s hs => ⟨_, rfl, ?_⟩, by decide⟩
  revert s
  decide

theorem witness_StationRegistersHaveTheirCommands :
    exec .transactionAbandon running = .next running ∧ isReset .transactionAbandon = false ∧ running.operating = true
      ∧ (∃ t, exec (.encoderEdge true true [[.startEdgeLatch]]) running = .next t)
      ∧ ∀ gap ∈ [[Between.startEdgeLatch]], .haltAssert ∉ gap ∧ .haltRelease ∉ gap := by
  exact ⟨rfl, rfl, rfl, ⟨_, rfl⟩, by decide⟩
theorem witness_FlagsStaySetAndTalliesNeverFall :
    exec .transactionAbandon { running with flags := 8192 } = .next { running with flags := 8192 }
      ∧ isReset .transactionAbandon = false ∧ { running with flags := 8192 }.flagSet .trackFull = true := by
  exact ⟨rfl, rfl, by decide⟩

/-- A step of the firing station: its t_close has fallen due. -/
def closing : State := { clockAt firing 30000 with pending := [.tCloseDue 0] }

theorem closing_steps : ∃ t, step closing = .next t := ⟨_, rfl⟩
theorem witness_StepKeepsCapacities : closing.withinCapacity ∧ ∃ t, step closing = .next t :=
  ⟨by decide, closing_steps⟩
/-- A station whose edge of four advances finds a track at the end of the range of distances. -/
def furthest : State :=
  { fourfold (holding running [{ piece .collecting with aLead := 8388612 }]) with pending := [.encoderEdge true true [[.lineIdle]]] }
theorem witness_StepKeepsTrackTable :
    (closing.tableSound ∧ closing.tableOrdered ∧ ∃ t, step closing = .next t)
    ∧ (furthest.tableSound ∧ furthest.tableOrdered ∧ ∃ t, step furthest = .next t)
    ∧ (∀ gap ∈ [[Between.lineIdle]], .sightTaken ∉ gap ∧ .localSightingTaken ∉ gap)
    ∧ ∀ u ∈ furthest.tracks,
        (((furthest.belt.accumulator + 1000) / furthest.record.pitch : Nat) : Int) - 8388608
          ≤ distance furthest.belt.count u.aLead :=
  ⟨⟨by decide, by decide, closing_steps⟩, ⟨by decide, by decide, _, rfl⟩, by decide, by decide⟩
theorem witness_StepKeepsValveBankAndLineHold : (closing.lineHeld ∧ closing.valvesSound) ∧ ∃ t, step closing = .next t :=
  ⟨by decide, closing_steps⟩
theorem witness_StepKeepsSetupAtRest :
    ({ idle with pending := [.start] }.setupAtRest ∧ { idle with pending := [.start] }.mode = .setup)
      ∧ ∃ t, step { idle with pending := [.start] } = .next t := ⟨by decide, _, rfl⟩
/-- A station in RUN as START leaves it. -/
def started : State := { running with peers := running.peers.set 9 (Peer.own running.record false), pending := [.haltAssert] }
theorem witness_StepKeepsHaltSetAndOwnEntry :
    (started.haltSound ∧ started.ownEntrySound) ∧ ∃ t, step started = .next t := ⟨by decide, _, rfl⟩
theorem witness_StepKeepsConditions : closing.conditionsSound ∧ ∃ t, step closing = .next t :=
  ⟨by decide, closing_steps⟩
/-- Table 10-3's cold defaults lie in their ranges, also with an alert threshold of 8. -/
theorem test_cold_record_in_range : idle.record.inRange = true := by decide +kernel
theorem test_threshold_8_in_range : (withByte idle 115 8).record.inRange = true := by decide +kernel
theorem witness_StepKeepsRecordInRange :
    idle.record.inRange = true ∧ ∃ t, step { idle with pending := [.writeConfig 0 1 [255]] } = .next t :=
  ⟨test_cold_record_in_range, _, rfl⟩
theorem witness_StepKeepsBeltCounter :
    (idle.record.inRange = true ∧ idle.beltSound) ∧ ∃ t, step { idle with pending := [.encoderEdge true true] } = .next t :=
  ⟨⟨test_cold_record_in_range, by decide⟩, _, rfl⟩

/-- A station sending its HALT frame. -/
def sending : State :=
  { running with
    line := { status := .receiving false, cSof := 0, tSof := 0 }
    tx := { running.tx with
      urgent := [{ content := .halt true .operator, errors := 2 }]
      attempt := some { source := .urgent, fate := .present, frame := frameOf 9 0 (.halt true .operator) } } }
theorem witness_StepKeepsTransmitter :
    sending.transmitterSound ∧ ∃ t, step { sending with pending := [.bitError] } = .next t := ⟨by decide, _, rfl⟩

theorem witness_SentFramesReadBackAndOthersMustBeSound :
    ((23 : BitVec 5).toNat ≤ 23 ∧ (Body.claim ⟨23, 255, .inert, 3, 32768, 65535, 191, 191⟩).inRange)
    ∧ acceptFrame (frameOf 23 255 (.halt false .operator)) = some (.halt false .operator) := by
  refine ⟨⟨by decide, ?_⟩, by decide⟩
  unfold Body.inRange
  decide

theorem witness_ForwardEdgeAdvancesTheBelt :
    (running.inReset = false ∧ running.record.countedEdge = .rising ∧ (running.belt.accumulator + 1000) / running.record.pitch = 1)
    ∧ (let s := withByte (withByte running 8 3) 9 232
       s.inReset = false ∧ (s.belt.accumulator + 1000) / s.record.pitch = 1)
    ∧ (let s := withByte (withByte (withByte running 8 3) 9 233) 10 2
       s.record.countedEdge = .both ∧ (s.belt.accumulator + 1000) / s.record.pitch = 0)
    ∧ (let s := withByte (withByte (withByte running 8 5) 9 220) 10 1
       s.record.countedEdge = .falling ∧ (s.belt.accumulator + 1000) / s.record.pitch = 0)
    ∧ (let s := { fourfold running with outgoing := some { values := [.ofState 1], waits := [], due := 0 } }
       2 + 1 < (s.belt.accumulator + 1000) / s.record.pitch ∧ (quiet s).line.status = .idle ∧ (quiet s).tracks = []
         ∧ s.outgoing = some { values := [.ofState 1], waits := [], due := 0 } ∧ atOrBefore 0 s.belt.timebase) := by decide
theorem witness_ReverseEdgeOnlyCounts :
    idle.inReset = false ∧ idle.record.countedEdge = .rising ∧ (withByte idle 10 1).record.countedEdge = .falling
      ∧ (withByte idle 10 2).record.countedEdge = .both := by decide
theorem witness_SpeedMeasureSpansSixteenAdvances :
    idle.belt.ring = [] ∧ (List.replicate 15 (7 : Time)).length < 16
      ∧ (16 ≤ (List.replicate 16 (7 : Time)).length ∧ (List.replicate 16 (7 : Time))[16 - 16]? = some 7) := by decide
theorem witness_ScanPhaseRaisesScanEvents :
    idle.mode = .setup ∧ (withByte running 0 1).record.role = .eject
    ∧ (running.mode ≠ .setup ∧ running.record.role ≠ .eject ∧ running.belt.scanPhase + 1 < running.record.scanPitch)
    ∧ (let s := { running with belt := { running.belt with scanPhase := 1 } }
       s.mode ≠ .setup ∧ s.record.role ≠ .eject ∧ s.record.scanPitch ≤ s.belt.scanPhase + 1 ∧ s.scan.link = .idle)
    ∧ (let s := { running with
          belt := { running.belt with scanPhase := 1 }, scan := { running.scan with link := .exchange 0 34 false, waiting := 255 } }
       s.record.scanPitch ≤ s.belt.scanPhase + 1 ∧ s.scan.link = .exchange 0 34 false) := by decide
theorem witness_StallAndPeerLossFallDue :
    (let s := { idle with belt := { idle.belt with motion := .moving 10000, timebase := 10000 } }
     s.inReset = false ∧ s.belt.motion = .moving 10000 ∧ atOrBefore 10000 s.belt.timebase)
    ∧ (let s := clockAt { idle with peers := idle.peers.set 23 { Peer.cold with lossDue := some 400000 } } 400000
       s.inReset = false ∧ (s.peers[(23 : Fin 24)]).lossDue = some 400000 ∧ atOrBefore 400000 s.belt.timebase) := by
  decide
theorem witness_ExchangeEndsWithItsLine :
    (∀ waiting ∈ [0, 255],
      let s := clockAt { running with scan := { running.scan with link := .exchange 2 34 false, waiting := waiting } } 34
      s.inReset = false ∧ atOrBefore 34 s.belt.timebase ∧ s.scan.link = .exchange 2 34 false)
    ∧ (∀ waiting ∈ [0, 255],
        let s := clockAt { running with scan := { running.scan with link := .exchange 2 34 true, waiting := waiting } } 34
        s.inReset = false ∧ atOrBefore 34 s.belt.timebase ∧ s.scan.link = .exchange 2 34 true)
    ∧ (let s := clockAt { idle with scan := { idle.scan with link := .exchange 2 34 true } } 34
       s.inReset = false ∧ s.scan.link = .exchange 2 34 true ∧ s.scan.waiting = 0) := by
  decide
theorem witness_RunOpensExtendsOrMerges :
    let run : Span := ⟨0, 31⟩
    let o : OpenObject := ⟨0, 0, ⟨0, 3⟩, ⟨0, 3⟩, 4, 400, 100, false⟩
    let w : Working := { obj := o, prior := [⟨0, 3⟩], extended := false }
    let x : Working := { obj := o, prior := [⟨31, 31⟩], extended := false }
    let away : Working := { obj := o, prior := [], extended := true }
    (∀ v ∈ List.replicate 16 away, v.touchedBy run = false) ∧ 16 ≤ (List.replicate 16 away).length
      ∧ (List.replicate 15 away).length < 16
      ∧ [away, w] = [away] ++ w :: [] ∧ [w, x] = [] ++ w :: [x] ∧ (∀ v ∈ [away], v.touchedBy run = false)
      ∧ w.touchedBy run = true ∧ x.touchedBy run = true := by
  decide
theorem witness_ClosedObjectBecomesSighting :
    let o : OpenObject := ⟨0, 2, ⟨0, 1⟩, ⟨0, 1⟩, 4, 400, 100, false⟩
    let s := withByte running 17 129
    { o with area := 3 }.area < s.record.minArea ∧ s.record.minArea ≤ o.area
      ∧ s.record.bands = [] ++ s.record.band 0 :: [s.record.band 1, s.record.band 2, s.record.band 3]
      ∧ (s.record.band 0).enabled = true ∧ (s.record.band 0).lo ≤ o.magnitudeSum / o.area
      ∧ o.magnitudeSum / o.area ≤ (s.record.band 0).hi
      ∧ (∀ p ∈ running.record.bands, p.enabled = true → p.lo ≤ o.magnitudeSum / o.area → ¬ o.magnitudeSum / o.area ≤ p.hi)
      ∧ s.mode ≠ .setup ∧ s.tx.mute = false ∧ s.line.status ≠ .idle := by decide

def fragment : Sighting := ⟨9, 0, .optical, 0, 0, 0, 0, 2, 4, .unknown, 0, 64, false, false⟩
theorem witness_IdleLineBeginsTheNextFrame :
    (idle.inReset = false ∧ idle.line.status = .waiting ∧ idle.mode = .setup ∧ (quiet idle).line.status = .idle)
    ∧ (let s := { running with tx := { running.tx with urgent := [{ content := .halt true .door, errors := 0 }] } }
       s.mode ≠ .setup ∧ s.tx.mute = false ∧ s.tx.urgent = [{ content := .halt true .door, errors := 0 }])
    ∧ (let s := countAt { running with tx := { running.tx with sightings := [{ sighting := fragment, errors := 0 }] } } 4095
       s.tx.urgent = [] ∧ s.tx.sightings = [{ sighting := fragment, errors := 0 }]
         ∧ (s.belt.count - fragment.lead).toNat ≤ 4095)
    ∧ (let stale : SightingEntry := { sighting := fragment, errors := 0 }
       let fresh : SightingEntry := { sighting := { fragment with lead := 1 }, errors := 0 }
       let s := countAt { running with tx := { running.tx with sightings := [stale, fresh] } } 4096
       s.tx.urgent = [] ∧ s.tx.sightings = [stale] ++ fresh :: [] ∧ 4095 < (s.belt.count - stale.sighting.lead).toNat
         ∧ (s.belt.count - fresh.sighting.lead).toNat ≤ 4095)
    ∧ (let stale : SightingEntry := { sighting := fragment, errors := 0 }
       let s := countAt { running with tx := { running.tx with sightings := [stale], beacon := some 0 } } 4096
       s.tx.urgent = [] ∧ s.tx.sightings = [stale] ∧ 4095 < (s.belt.count - stale.sighting.lead).toNat
         ∧ s.tx.beacon = some 0) := by decide
theorem witness_StartEdgeFillsFieldsAndDropsStale :
    let s := countAt { running with tx := { running.tx with sightings := [{ sighting := fragment, errors := 0 }] } } 4096
    s.inReset = false ∧ s.line.status = .waiting ∧ s.mode ≠ .setup
      ∧ s.tx.mute = false ∧ s.tx.urgent = [] ∧ s.tx.sightings ≠ []
      ∧ (∀ e ∈ s.tx.sightings, 4095 < (s.belt.count - e.sighting.lead).toNat) ∧ s.tx.beacon = none := by decide
theorem witness_StartEdgesAndAttemptEnds :
    (idle.inReset = false ∧ (quiet idle).line.status = .idle ∧ idle.line.status ≠ .idle ∧ sending.line.status ≠ .waiting
      ∧ sending.line.status ≠ .idle)
    ∧ (∃ a, sending.inReset = false ∧ sending.tx.attempt = some a ∧ a.fate ≠ .gone
        ∧ WireFrame.arbitrationBit a.frame 7 = true) :=
  ⟨by decide, _, rfl, rfl, by decide, by decide⟩
/-- The same with the attempt of another queue, or without its entry. -/
def sendingFrom (source : Source) (fate : EntryFate) : State :=
  { sending with tx := { sending.tx with
      sightings := [{ sighting := fragment, errors := 1 }], beacon := some 2
      attempt := some { source := source, fate := fate, frame := frameOf 9 0 (.halt true .operator) } } }
theorem witness_BitErrorsDropEntriesAndMute :
    (∀ source fate, ∃ a, (sendingFrom source fate).inReset = false ∧ (sendingFrom source fate).tx.attempt = some a
      ∧ a.source = source ∧ a.fate = fate ∧ (sendingFrom source fate).tx.consecutive < 15)
    ∧ { sending with tx := { sending.tx with consecutive := 15 } }.tx.consecutive = 15 :=
  ⟨fun _ _ => ⟨_, rfl, rfl, rfl, rfl, by show 0 < 15; decide⟩, rfl⟩
theorem witness_BeaconFallsDue :
    (let s := clockAt { running with tx := { running.tx with beaconDue := some 100000 } } 100000
     s.inReset = false ∧ s.mode ≠ .setup ∧ s.tx.beaconDue = some 100000 ∧ atOrBefore 100000 s.belt.timebase
       ∧ s.tx.mute = false ∧ s.line.status ≠ .idle ∧ s.tx.attempt = none)
    ∧ (let s := { running with tx := { running.tx with beaconDue := some 0, mute := true } }
       s.mode ≠ .setup ∧ s.tx.beaconDue = some 0 ∧ atOrBefore 0 s.belt.timebase ∧ s.tx.mute = true)
    ∧ (let s := { running with tx := { running.tx with beaconDue := some 0 }, line := { running.line with status := .idle } }
       s.inReset = false ∧ s.mode ≠ .setup ∧ s.tx.beaconDue = some 0 ∧ atOrBefore 0 s.belt.timebase ∧ s.tx.mute = false
         ∧ s.line.status = .idle ∧ s.tx.urgent = [] ∧ s.tx.sightings = []) := by
  decide
theorem witness_OffersFollowTheTransmitterState :
    idle.mode = .setup ∧ { running with tx := { running.tx with mute := true } }.tx.mute = true
    ∧ (let s := { running with tx := { running.tx with urgent := List.replicate 8 { content := .halt true .door, errors := 0 } } }
       s.mode ≠ .setup ∧ s.tx.mute = false ∧ s.line.status ≠ .idle ∧ 8 ≤ s.tx.urgent.length)
    ∧ (running.mode ≠ .setup ∧ running.tx.mute = false ∧ running.line.status ≠ .idle ∧ running.tx.urgent.length < 8)
    ∧ (let s := countAt (quiet running) 4095
       s.mode ≠ .setup ∧ s.tx.mute = false ∧ s.line.status = .idle ∧ s.inReset = false ∧ s.tx.urgent = []
         ∧ s.tx.sightings = [] ∧ (s.belt.count - fragment.lead).toNat ≤ 4095) := by
  decide

/-- A station in the middle of a frame. -/
def hearing (s : State) (own : Bool) : State := { s with line := { status := .receiving own, cSof := 70, tSof := 80 } }
def sight : Body := .sight ⟨40, .optical, false, false, 0, 0, 0, 191, 1, 1, .wire, 90, 200⟩
theorem witness_DiscardedOwnAndDuplicateFrames :
    ((hearing idle false).inReset = false ∧ (hearing idle false).line.status = .receiving false
      ∧ (hearing idle false).tx.attempt = none ∧ acceptFrame { frameOf 3 0 sight with endField := 254 } = none)
    ∧ ((hearing idle true).line.status = .receiving true ∧ acceptFrame (frameOf 9 0 sight) = some sight)
    ∧ ((frameOf 9 0 sight).sender = (hearing idle false).strapId)
    ∧ (let s := after (exec .bitError sending)
       s.inReset = false ∧ s.tx.attempt = none ∧ s.line.status = .broken) := by decide
/-- R56: a sound frame read after the own bit error is discarded all the same. -/
theorem test_frame_after_bit_error_discarded :
    let t := after (exec (.frameReceived (frameOf 9 0 (.halt true .operator))) (after (exec .bitError sending)))
    (t.tally .rxCrc, t.line.status) = (1, .waiting) := by decide
theorem witness_HeardFramesReachPeerInboxAndCopies :
    let s := hearing (withByte (withByte running 0 1) 116 16) false
    (s.inReset = false ∧ s.line.status = .receiving false ∧ s.tx.attempt = none ∧ acceptFrame (frameOf 23 0 sight) = some sight
      ∧ sight.kind ≠ .halt ∧ sight.kind ≠ .status ∧ (frameOf 23 0 sight).sender.toNat = (23 : Fin 24).val
      ∧ (frameOf 23 0 sight).sender ≠ s.strapId)
    ∧ s.mode ≠ .setup ∧ s.record.role ≠ .sense ∧ s.inbox.length < 16 ∧ s.record.copies .sight = true ∧ s.copies.length < 8
    ∧ running.record.role = .sense ∧ running.record.copies .sight = false
    ∧ 16 ≤ (List.replicate 16 (⟨3, sight, 0, 0⟩ : InboxEntry)).length
    ∧ 8 ≤ (List.replicate 8 (⟨.sight, 3, 0, [], 0, 0⟩ : CopyEntry)).length := by decide
theorem witness_HaltFramesHoldAndReleaseTheLine :
    let s := hearing running false
    (s.inReset = false ∧ s.line.status = .receiving false ∧ s.tx.attempt = none
      ∧ acceptFrame (frameOf 0 0 (.halt true .door)) = some (.halt true .door)
      ∧ (frameOf 0 0 (.halt true .door)).sender.toNat = (0 : Fin 24).val ∧ (frameOf 0 0 (.halt true .door)).sender ≠ s.strapId)
    ∧ s.mode = .run ∧ (after (exec (.frameReceived (frameOf 0 0 (.halt true .door))) s)).haltSet ≠ 0
    ∧ (let b : Body := .status ⟨false, false, ⟨.both, 3, .optical, 160, 32, 65535⟩⟩
       acceptFrame (frameOf 23 255 b) = some b ∧ (frameOf 23 255 b).sender.toNat = (23 : Fin 24).val
         ∧ (frameOf 23 255 b).sender ≠ s.strapId
         ∧ (after (exec (.frameReceived (frameOf 23 255 b)) s)).haltSet = 0) := by decide
theorem witness_EnteringHeldStopsTheValves :
    firing.tableSound ∧ (firing.valves[(4 : Fin 32)]).isOpen = true ∧ (firing.valves[(7 : Fin 32)]).isOpen = false
      ∧ firing.trace.length ≤ 32 ∧ (firing.tracks.filter fun u => u.state = .firing) ≠ []
      ∧ (running.tracks.filter fun u => u.state = .firing) = [] := by
  decide
theorem witness_OperatorHaltsAndReleases :
    (running.inReset = false ∧ running.strapId.toNat < 24 ∧ running.ownHalt = false ∧ running.mode = .run
      ∧ running.tx.mute = false ∧ running.tx.urgent.length < 8 ∧ running.line.status ≠ .idle)
    ∧ (let s := { running with mode := .held, operatorHalt := true, haltSet := 512 }
       s.ownHalt = true ∧ (after (exec .haltRelease s)).ownHalt = false ∧ s.mode = .held
         ∧ (after (exec .haltRelease s)).haltSet = 0) := by decide
theorem witness_ClearHaltRemovesASilentPeer :
    idle.inReset = false ∧ 24 ≤ (24 : Byte).toNat ∧ (9 : Byte).toNat = idle.strapId.toNat
    ∧ ((0 : Fin 24).val = (0 : Byte).toNat ∧ (0 : Byte).toNat ≠ idle.strapId.toNat ∧ (idle.peers[(0 : Fin 24)]).state ≠ .live)
    ∧ (let s := { running with mode := .held, haltSet := 8388608 }
       s.mode = .held ∧ (s.peers[(23 : Fin 24)]).state ≠ .live ∧ (after (exec (.clearHalt 23) s)).haltSet = 0 ∧ s.haltSound)
    ∧ idle.haltSound ∧ running.haltSound := by decide
theorem witness_MonitorSampleDebouncesAndEvaluates :
    let s := { clockAt (withByte (withByte running 99 1) 100 1) 1000 with
      monitor := { running.monitor with watch := .matched } }
    s.inReset = false ∧ atOrBefore s.monitor.sampleDue s.belt.timebase ∧ s.mode ≠ .setup ∧ s.monitor.watch = .matched
      ∧ ¬ (∀ i : Nat, i < 8 → s.record.watchMask.getLsbD i = true →
          s.record.inputTrue (after (exec (.monitorSample 0) s)).monitor.accepted i = s.record.watchPattern.getLsbD i)
      ∧ (∀ i : Nat, i < 8 → running.record.watchMask.getLsbD i = true →
          running.record.inputTrue running.monitor.accepted i = running.record.watchPattern.getLsbD i)
      ∧ (let d := clockAt (withByte (withByte running 91 2) 92 4) 1000
         let shut := { d with monitor := { d.monitor with accepted := 1 } }
         let stopped := { d with mode := .held, monitor := { d.monitor with accepted := 3, lastSample := 1, stopRequested := true } }
         (shut.takesOffers ∧ (after (exec (.monitorSample 0) shut)).ownHalt ≠ shut.ownHalt ∧ shut.mode = .run
            ∧ (after (exec (.monitorSample 0) shut)).mode = .held)
         ∧ (clockAt idle 1000).mode = .setup ∧ atOrBefore idle.monitor.sampleDue (clockAt idle 1000).belt.timebase
         ∧ (stopped.takesOffers ∧ (after (exec (.monitorSample 1) stopped)).ownHalt ≠ stopped.ownHalt)
         ∧ (let t := after (exec (.monitorSample 3) shut)
            t.ownHalt = shut.ownHalt ∧ t.monitor.doorOpen = shut.monitor.doorOpen ∧ t.mode ≠ .held)) := by decide

/-! ### Sightings -/

/-- The SIGHT of Table 5-4's first row, its age 350 at C_sof 61,440, and the station that takes it. -/
def tangle : SightBody := ⟨40, .inductiveBar, false, false, 350, 1200, 4, 6, 120, 10, .metal, 180, 200⟩
def taking (b : SightBody) (ts : List Track) : State :=
  countAt (holding { withByte running 0 1 with inbox := [⟨3, .sight b, 61440, 0⟩] } ts) 61440
def taken (b : SightBody) : Evidence :=
  { anchorId := 3, anchorSerial := b.serial, kind := b.kind, sensorLine := b.sensorLine, lead := 61440 - BitVec.ofNat 24 b.age
    laneFirst := b.laneFirst, laneLast := b.laneLast, length := b.length, hint := b.hint, strength := b.strength }
theorem taking_takes (b : SightBody) (ts : List Track) :
    (taking b ts).takesSighting .sightTaken (taken b) { taking b ts with inbox := [] } :=
  ⟨rfl, fun h => Mode.noConfusion (show Mode.run = Mode.setup from h), .inl ⟨rfl, 3, b, 61440, 0, [], rfl, rfl, rfl⟩⟩

theorem witness_SightingMakesATrack :
    (∃ s1, (taking tangle []).takesSighting .sightTaken (taken tangle) s1)
    ∧ (let s := taking tangle []
       let e := taken tangle
       s.tableSound ∧ s.windowHolds e ∧ e.sensorLine < s.record.beltHead ∧ ahead (s.leadOf e) s.belt.count
         ∧ ahead (s.leadOf e - BitVec.ofNat 24 s.record.verdictDistance) s.belt.count
         ∧ (∀ u ∈ s.tracks, ¬ s.sightingMeets e u) ∧ s.tracks.length < 64)
    ∧ (let s := taking { tangle with age := 2500 } []
       let e := taken { tangle with age := 2500 }
       ahead (s.leadOf e) s.belt.count ∧ atOrBefore (s.leadOf e - BitVec.ofNat 24 s.record.verdictDistance) s.belt.count) :=
  ⟨⟨_, taking_takes _ _⟩, by decide, by decide⟩
/-- The local sighting of a BOTH station, taken the same way. -/
theorem witness_SightingMakesATrack_local :
    ∃ e s1, { withByte running 0 2 with localSightings := [fragment] }.takesSighting .localSightingTaken e s1 :=
  ⟨_, _, rfl, by decide, .inr ⟨rfl, fragment, [], rfl, rfl, rfl⟩⟩
theorem witness_SightingsThatChangeNoTrack :
    (∀ b ts, ∃ s1, (taking b ts).takesSighting .sightTaken (taken b) s1)
    ∧ (let s := taking tangle [{ piece .watching with aLead := 63890, aTrail := 64009, laneFirst := 7, laneLast := 7 }]
       ¬ s.windowHolds (taken { tangle with laneFirst := 33, laneLast := 33 })
       ∧ s.windowHolds (taken { tangle with laneFirst := 32, laneLast := 32 })
       ∧ s.record.beltHead ≤ (taken { tangle with sensorLine := 4000 }).sensorLine
       ∧ (taken tangle).sensorLine < s.record.beltHead ∧ s.windowHolds (taken tangle)
       ∧ atOrBefore (s.leadOf (taken { tangle with age := 2800 })) s.belt.count
       ∧ ahead (s.leadOf (taken { tangle with age := 2799 })) s.belt.count
       ∧ (∃ u ∈ s.tracks, s.sightingMeets (taken tangle) u)
       ∧ (∀ u ∈ s.tracks, s.sightingMeets (taken tangle) u → u.state ≠ .collecting))
    ∧ (let s := taking tangle (List.replicate 64 (piece .watching))
       (∀ u ∈ s.tracks, ¬ s.sightingMeets (taken tangle) u) ∧ 64 ≤ s.tracks.length) :=
  ⟨fun _ _ => ⟨_, taking_takes _ _⟩, by decide, by decide⟩
/-- Two tracks that the tangle's sighting joins together. -/
def halves : List Track :=
  [{ piece .collecting with aLead := 63890, aTrail := 63940 },
   { piece .collecting with made := 1, aLead := 63960, aTrail := 64009, mark := some (.claimed .wire) }]
theorem witness_SightingJoinsItsTracks :
    (∃ s1, (taking tangle halves).takesSighting .sightTaken (taken tangle) s1)
    ∧ halves.Sublist (taking tangle halves).tracks
    ∧ (let s := taking tangle halves
       let e := taken tangle
       s.tableSound ∧ s.windowHolds e ∧ e.sensorLine < s.record.beltHead ∧ ahead (s.leadOf e) s.belt.count
         ∧ (∀ v ∈ s.tracks, v ∈ halves ↔ v.state = .collecting ∧ s.sightingMeets e v) ∧ s.tableOrdered
         ∧ ahead ((63890 : Count) - BitVec.ofNat 24 s.record.verdictDistance) s.belt.count
         ∧ atOrBefore ((63890 : Count) - BitVec.ofNat 24 s.record.verdictDistance) (countAt s 63590).belt.count) :=
  ⟨⟨_, taking_takes _ _⟩, .refl _, by decide⟩

/-! ### Verdict, launch, flight and valves -/

theorem witness_ScoresGiveTheClass :
    (piece .collecting).mark = none ∧ 1 ≤ idle.record.margin ∧ idle.record.threshold ≤ (piece .collecting).scores.of .metal := by
  decide
theorem witness_VerdictSetsStateAndClaim :
    { piece .collecting with mark := some (.rescue .foam) }.mark = some (.rescue .foam)
    ∧ (let lost : Peer := { Peer.cold with state := .lost, about := some ⟨.sense, 0, .inductiveBar, 6, 32, 0⟩ }
       let p := (idle.peers.set 3 lost)[(3 : Fin 24)]
       p.state = .lost ∧ p.about = some ⟨.sense, 0, .inductiveBar, 6, 32, 0⟩ ∧ Role.sense ≠ .eject
         ∧ 6 ≤ (piece .collecting).laneLast ∧ (piece .collecting).laneFirst ≤ 6 + 32 - 1)
    ∧ (let u := { piece .collecting with aTrail := 2200 }
       idle.record.maxEjectLength < (u.aTrail - u.aLead).toNat + 1 ∧ (2199 - u.aLead).toNat + 1 ≤ idle.record.maxEjectLength)
    ∧ (let s := withByte running 41 2
       let u := { piece .collecting with laneFirst := 31, laneLast := 32 }
       (s.judged u).state = .armed ∧ s.record.laneBase + s.record.laneCount ≤ u.laneLast ∧ s.takesOffers
         ∧ (running.judged u).state = .watching) := by decide
theorem witness_FlightTimesFollowTheMeasure : idle.record.minPulse ≤ idle.record.maxOpen := by decide
theorem witness_LaunchesFollowTheMeasure :
    let judged := { piece .collecting with made := 2, aLead := 1300 }
    let s := { countAt (holding running [piece .armed, { piece .watching with made := 1, aLead := 1001 }, judged]) 1000 with
      nextMade := 3 }
    (s.tableSound ∧ piece .armed ∈ s.tracks)
    ∧ [piece .armed, judged].Sublist s.tracks
    ∧ (∀ v ∈ s.tracks, (v ∈ [piece .armed, judged] ↔
        (v.state = .collecting ∧ v.aLead - BitVec.ofNat 24 s.record.verdictDistance = s.belt.count)
          ∨ ((v.state = .armed ∨ v.state = .watching) ∧ v.aLead = s.belt.count)))
    ∧ 160000 < (160001 : Time).toNat ∧ (160000 : Time).toNat ≤ 160000 ∧ s.takesOffers
    ∧ s.tracks.countP Track.inFlight < 24 ∧ ahead (s.record.flightOf (piece .armed) 0 160000).tOpen s.belt.timebase
    ∧ 24 ≤ (List.replicate 24 (flying .coasting 1 2)).countP Track.inFlight
    ∧ (let atHead := withByte (withByte s 33 0) 34 8
       atOrBefore (atHead.record.flightOf (piece .armed) 0 160000).tOpen atHead.belt.timebase) := by decide

/-- One LAUNCHED track at its t_open, and its firing set. -/
def opening (s : State) : State := clockAt (holding s [flying .launched 98327 138327]) 98327
/-- A grant with valves, whole: at its t_open, and at its t_close. -/
theorem witness_GrantFiresTheTrack :
    (∀ now, now = 98327 ∨ now = 138327 →
      let s := clockAt (opening running) now
      let u := flying .launched 98327 138327
      let set : List (Fin 32) := [4, 5, 6]
      s.inReset = false ∧ s.tableSound ∧ u ∈ s.tracks ∧ u.state = .launched ∧ atOrBefore 98327 s.belt.timebase
        ∧ u.flight = some ⟨0, 5333, 98327, 138327⟩ ∧ (∀ v ∈ s.tracks, v ≠ u → s.openDue v = false) ∧ set.Nodup
        ∧ (∀ i, i ∈ set ↔ s.inFiringSet u i) ∧ s.mode ≠ .held ∧ s.monitor.chuteNotReady = false ∧ set ≠ []
        ∧ (set.length + 1) / 2 ≤ (set.countP fun i => (s.valves[i]).isOpen) + (set.countP fun i => (s.valves[i]).isClosed)
        ∧ s.openCount + (set.countP fun i => (s.valves[i]).isClosed) ≤
            (if s.monitor.airLow then s.record.budgetLow else s.record.budget) ∧ s.takesOffers)
    ∧ ahead (138327 : Time) (opening running).belt.timebase
    ∧ atOrBefore (138327 : Time) (clockAt (opening running) 138327).belt.timebase := by
  refine ⟨fun now h => ?_, by decide⟩
  rcases h with rfl | rfl <;> decide
/-- R9, R154: a request at its own t_close opens nothing: the valves rest at once for 3,000, and the track ends FIRED. -/
theorem test_grant_at_its_close :
    let t := after (exec .tOpenDue (clockAt (opening running) 138327))
    (t.tracks, t.valves[(4 : Fin 32)], t.tally (.fired .metal)) = ([], .resting 141327, 1) := by decide
theorem witness_RefusedTracksEndMissed :
    let u := flying .launched 98327 138327
    let set : List (Fin 32) := [4, 5, 6]
    let low := withByte running 87 2
    let resting := { running with valves := Vector.ofFn fun i => if i.val = 4 then .closed else .resting 99000 }
    (let s := opening running
     s.inReset = false ∧ s.tableSound ∧ u ∈ s.tracks ∧ u.state = .launched ∧ u.flight = some ⟨0, 5333, 98327, 138327⟩
       ∧ atOrBefore 98327 s.belt.timebase ∧ (∀ v ∈ s.tracks, v ≠ u → s.openDue v = false) ∧ set.Nodup
       ∧ (∀ i, i ∈ set ↔ s.inFiringSet u i))
    ∧ (opening { running with mode := .held }).mode = .held
    ∧ (opening { running with monitor := { running.monitor with chuteNotReady := true } }).monitor.chuteNotReady = true
    ∧ (let s := opening resting
       (set.countP fun i => (s.valves[i]).isOpen) + (set.countP fun i => (s.valves[i]).isClosed) < (set.length + 1) / 2)
    ∧ (let s := opening low
       s.record.budget < s.openCount + (set.countP fun i => (s.valves[i]).isClosed)) := by decide
theorem witness_RequestsGoByRankThenPlace :
    (opening running).inReset = false ∧ (opening running).tracks.filter (opening running).openDue ≠ [] := by decide
theorem witness_FlightsEndAndValvesRestAtTheirTimes :
    (firing.inReset = false ∧ firing.tableSound ∧ flying .firing 0 30000 ∈ firing.tracks
      ∧ (flying .firing 0 30000).flight = some ⟨0, 5333, 0, 30000⟩ ∧ atOrBefore 30000 (clockAt firing 30000).belt.timebase
      ∧ firing.valves[(4 : Fin 32)] = .opened 0 30000)
    ∧ (let s := clockAt (holding running [flying .coasting 500 900]) 500
       s.tableSound ∧ flying .coasting 500 900 ∈ s.tracks ∧ (flying .coasting 500 900).state = .coasting
         ∧ atOrBefore 500 s.belt.timebase)
    ∧ (let s := clockAt { idle with valves := idle.valves.set 31 (.resting 3000) } 3000
       s.valves[(31 : Fin 32)] = .resting 3000 ∧ atOrBefore 3000 s.belt.timebase) := by decide

/-! ### Curtain coordination -/

/-- An outcome frame that names the tangle by its anchor, its A_lead being 1,000 on the own count. -/
def named (curtain : Nat) (cls : PieceClass) : OutcomeBody := ⟨3, 40, cls, curtain, 65516, 120, 4, 6⟩
def told (s : State) (b : Body) (ts : List Track) : State :=
  countAt (holding { s with inbox := [⟨3, b, 1020, 0⟩] } ts) 1020
theorem finds (s : State) (b : Body) (curtain : Nat) (cls : PieceClass) (u : Track)
    (h : (told s b [u]).meetsByAnchor (named curtain cls) 1020 u) :
    (told s b [u]).frameFinds (named curtain cls) 1020 u := ⟨[], [], rfl, .inl ⟨h, by simp⟩⟩
def downstream : State := withByte (withByte (withByte running 32 1) 41 2) 42 2

theorem witness_ClaimTakenFollowsItsTable :
    (let s := told downstream (.claim (named 1 .metal)) []
     s.inReset = false ∧ s.mode ≠ .setup ∧ s.inbox = ⟨3, .claim (named 1 .metal), 1020, 0⟩ :: []
       ∧ (named 0 .metal).curtain ≠ s.record.curtain ∧ (named 1 .metal).curtain = s.record.curtain
       ∧ s.frameFindsNone (named 1 .metal) 1020)
    ∧ (∀ u ∈ [piece .collecting, piece .watching, piece .armed, flying .coasting 98327 138327, flying .launched 9 99, flying .firing 0 9],
        (told downstream (.claim (named 1 .metal)) [u]).tableSound
          ∧ (told downstream (.claim (named 1 .metal)) [u]).frameFinds (named 1 .metal) 1020 u)
    ∧ downstream.record.isTarget .metal = true ∧ downstream.record.isTarget .foam = false
    ∧ (flying .coasting 98327 138327).flight = some ⟨0, 5333, 98327, 138327⟩
    ∧ (let tOpen : Time := 0 + BitVec.ofNat 32 (downstream.record.openDistance .metal * 5333 / 16)
       ahead tOpen downstream.belt.timebase ∧ atOrBefore tOpen (clockAt downstream 96660).belt.timebase) := by
  refine ⟨by decide, fun u hu => ⟨?_, finds _ _ _ _ _ ?_⟩, by decide⟩ <;>
    revert u <;> decide
theorem witness_FiredTakenFollowsItsTable :
    (let s := told downstream (.fired (named 0 .metal)) []
     s.inReset = false ∧ s.mode ≠ .setup ∧ s.inbox = ⟨3, .fired (named 0 .metal), 1020, 0⟩ :: []
       ∧ s.record.curtain ≤ (named 1 .metal).curtain ∧ (named 0 .metal).curtain < s.record.curtain
       ∧ s.frameFindsNone (named 0 .metal) 1020)
    ∧ (∀ u ∈ [piece .armed, flying .firing 0 9],
        (told downstream (.fired (named 0 .metal)) [u]).tableSound
          ∧ (told downstream (.fired (named 0 .metal)) [u]).frameFinds (named 0 .metal) 1020 u) := by
  refine ⟨by decide, fun u hu => ⟨?_, finds _ _ _ _ _ ?_⟩⟩ <;> revert u <;> decide
theorem witness_MissedTakenFollowsItsTable :
    (let s := told downstream (.missed .air (named 0 .metal)) []
     s.inReset = false ∧ s.mode ≠ .setup ∧ s.inbox = ⟨3, .missed .air (named 0 .metal), 1020, 0⟩ :: []
       ∧ s.record.curtain ≤ (named 1 .metal).curtain ∧ s.record.isRescue .foam = false
       ∧ (named 0 .metal).curtain < s.record.curtain ∧ s.record.isRescue .metal = true
       ∧ s.frameFindsNone (named 0 .metal) 1020)
    ∧ (∀ u ∈ [piece .collecting, piece .watching, piece .armed, flying .coasting 98327 138327],
        (told downstream (.missed .air (named 0 .metal)) [u]).tableSound
          ∧ (told downstream (.missed .air (named 0 .metal)) [u]).frameFinds (named 0 .metal) 1020 u) := by
  refine ⟨by decide, fun u hu => ⟨?_, finds _ _ _ _ _ ?_⟩⟩ <;> revert u <;> decide

/-! ### Station port -/

theorem witness_ReadsAnswerTheState :
    idle.inReset = false ∧ (∀ w ∈ [0, 0], w = 0) ∧ 43 < stateValues.length
      ∧ { idle with outgoing := some { values := [.flags], waits := [], due := 0 } }.outgoing =
          some { values := [.flags], waits := [], due := 0 }
      ∧ atOrBefore 0 idle.belt.timebase := by
  decide
theorem witness_ClearsAndTakesActAtOnce :
    ([1, 2] : List Byte).length = (2 : Byte).toNat ∧ ([1] : List Byte).length < (2 : Byte).toNat
      ∧ idle.inReset = false ∧ idle.latest = none ∧ idle.copies = [] ∧ (0 : Byte).toNat = 0 ∧ 17 < (18 : Byte).toNat
      ∧ (∃ l, { idle with latest := some { entry := (piece .collecting).shortEntry, isNew := true } }.latest = some l)
      ∧ { idle with copies := [⟨.sight, 3, 0, [], 0, 0⟩] }.copies = ⟨.sight, 3, 0, [], 0, 0⟩ :: [] := by
  exact ⟨rfl, by decide, rfl, rfl, rfl, rfl, by decide, ⟨_, rfl⟩, rfl⟩
/-- A field of each clamp, touched by a write or not, and the bytes of the inputs left as they are. -/
theorem witness_WriteConfigWritesAndClamps :
    (idle.inReset = false ∧ [(255 : Byte), 255].length = (2 : Byte).toNat ∧ [(255 : Byte)].length < (2 : Byte).toNat
      ∧ idle.mode = .setup ∧ running.mode ≠ .setup ∧ idle.conditionsSound ∧ idle.record.inRange = true)
    ∧ (∀ f ∈ [(⟨115, 1, .unsigned 1 8⟩ : Field), ⟨8, 2, .unsigned 100 20000⟩, ⟨40, 1, .signed (-64) 63⟩, ⟨116, 1, .masked 63⟩,
          ⟨98, 1, .marked 4⟩],
        f ∈ recordFields ∧ f.offset ≠ 81 ∧ f.offset ≠ 88)
    ∧ (∃ k, k < 2 ∧ (9 : Byte).toNat ≤ 8 + k ∧ 8 + k < (9 : Byte).toNat + (2 : Byte).toNat)
    ∧ (¬ ∃ k, k < 1 ∧ (9 : Byte).toNat ≤ 115 + k ∧ 115 + k < (9 : Byte).toNat + (2 : Byte).toNat)
    ∧ (∀ i, i < 8 → (after (exec (.writeConfig 9 2 [255, 255]) idle)).record.byte (91 + i) = idle.record.byte (91 + i))
    ∧ (let t := after (exec (.writeConfig 91 1 [2]) idle)
       ¬ (∀ i, i < 8 → t.record.byte (91 + i) = idle.record.byte (91 + i)) ∧ t.ownHalt ≠ idle.ownHalt
         ∧ t.monitor.stopRequested = idle.monitor.stopRequested ∧ idle.haltSound) := by
  refine ⟨⟨rfl, rfl, by decide, rfl, by decide, by decide, test_cold_record_in_range⟩, by decide, ⟨1, by decide⟩, ?_, by decide,
    by decide⟩
  rintro ⟨k, hk⟩
  revert hk
  simp
  omega
theorem witness_StartValidatesAndBegins :
    (idle.inReset = false ∧ idle.mode = .setup ∧ running.mode ≠ .setup ∧ 24 ≤ (State.cold 24 0 []).strapId.toNat)
    ∧ (idle.strapId.toNat < 24 ∧ ¬ 192 < idle.record.laneBase + idle.record.laneCount
        ∧ ¬ (idle.record.role ≠ .eject ∧ idle.record.beltHead ≤ idle.record.sensorLine)
        ∧ ¬ (∃ b ∈ idle.record.bands, b.enabled = true ∧ b.hi < b.lo))
    ∧ 192 < (withByte idle 1 161).record.laneBase + (withByte idle 1 161).record.laneCount
    ∧ (let s := withByte (withByte idle 4 15) 5 160
       s.record.role ≠ .eject ∧ s.record.beltHead ≤ s.record.sensorLine)
    ∧ (let s := withByte (withByte (withByte idle 17 128) 18 1) 19 0
       ∃ b ∈ s.record.bands, b.enabled = true ∧ b.hi < b.lo) := by decide
/-- SETUP at rest; and the same with the own halt asserted at an idle line. -/
def haltedAtRest : State := { idle with operatorHalt := true, haltSet := 512, line := { idle.line with status := .idle } }
theorem witness_StartValidatesAndBegins_at_rest :
    (idle.setupAtRest ∧ idle.openCount = 0 ∧ idle.tx.urgent = [] ∧ idle.tx.mute = false ∧ idle.ownHalt = false)
    ∧ (idle.haltSet = 0 ∧ idle.line.status ≠ .idle)
    ∧ (haltedAtRest.setupAtRest ∧ haltedAtRest.ownHalt = true ∧ haltedAtRest.haltSet ≠ 0)
    ∧ (haltedAtRest.line.status = .idle ∧ haltedAtRest.tx.mute = false ∧ haltedAtRest.tx.urgent = []
        ∧ haltedAtRest.tx.sightings = [])
    ∧ ((quiet idle).line.status = .idle ∧ (quiet idle).tx.mute = false ∧ (quiet idle).ownHalt = false)
    ∧ { idle with tx := { idle.tx with mute := true } }.tx.mute = true :=
  ⟨⟨by decide, by decide⟩, by decide, ⟨by decide, by decide⟩, by decide⟩
/-- R75, R173 (log 27): the first frame of a START on an idle line, the own halt asserted by OPERATOR. -/
theorem test_start_sends_halt_first :
    (after (exec .start haltedAtRest)).tx.attempt.map Attempt.frame = some (frameOf 9 0 (.halt true .operator)) := by decide
theorem witness_RestartReturnsToSetup :
    idle.inReset = false ∧ idle.mode = .setup ∧ firing.inReset = false ∧ firing.mode ≠ .setup
      ∧ (firing.valves[(4 : Fin 32)]).isOpen = true := by decide
theorem witness_ColdStartAndResetHoldColdValues :
    { idle with inReset := true }.inReset = true ∧ isReset .transactionAbandon = false := by decide
theorem witness_AlertFollowsFlagsAndLevels :
    idle.record.inRange = true ∧ (∀ f : Flag, idle.flagSet f = true → idle.record.alertLevel f.bit = 0)
      ∧ ((withByte idle 115 8).record.inRange = true ∧ (withByte idle 115 8).record.alertThreshold = 8)
      ∧ idle.record = Record.cold := by
  refine ⟨test_cold_record_in_range, fun f => ?_, ⟨test_threshold_8_in_range, by decide⟩, rfl⟩
  cases f <;> decide

end Sys2Proof.Tests
end

/-! PROOF. Filtered presence (R27): the filter lane by lane, and what a processed scan leaves as last raw and filtered presence. -/

namespace Sys2Proof.Machine

/-! ## What the closings of a scan leave of the scan unit -/

/-- Of the scan unit, a closing object takes at most the serial (R36, R38). -/
theorem State.closeObject_scan (s : State) (o : OpenObject) (cut : Bool) :
    ∃ n, (s.closeObject o cut).scan = { s.scan with serial := n } := by
  unfold State.closeObject
  split
  · exact ⟨s.scan.serial, by simp⟩
  · refine ⟨s.scan.serial + 1, ?_⟩
    exact ((State.handOver_only _ _) .scan (by simp)).trans ((State.offerSighting_only _ _) .scan (by simp))

theorem State.closeWorking_scan (stamp : Count) (s : State) (w : Working) :
    ∃ n, (State.closeWorking stamp s w).scan = { s.scan with serial := n } := by
  unfold State.closeWorking
  split
  case h_1 => exact ⟨s.scan.serial, rfl⟩
  case h_2 => exact s.closeObject_scan _ _
  case h_3 => exact s.closeObject_scan _ _

theorem State.closeWorkings_scan (stamp : Count) (ws : List Working) :
    ∀ s : State, ∃ n, (ws.foldl (State.closeWorking stamp) s).scan = { s.scan with serial := n } := by
  induction ws with
  | nil => exact fun s => ⟨s.scan.serial, rfl⟩
  | cons w rest ih =>
    intro s
    obtain ⟨_, first⟩ := State.closeWorking_scan stamp s w
    obtain ⟨n, others⟩ := ih (State.closeWorking stamp s w)
    exact ⟨n, by rw [List.foldl_cons, others, first]⟩

/-! ## Presence after a scan -/

/-- The presence of a processed scan: the raw presence held is the last raw one, and the filter gives the filtered one (R27). -/
theorem State.processScan_presence (s : State) (stamp : Count) :
    (s.processScan stamp).scan.lastRaw = s.scan.heldPresence
      ∧ (s.processScan stamp).scan.filtered = filterPresence s.scan.heldPresence s.scan.lastRaw s.scan.filtered := by
  unfold State.processScan
  dsimp only
  generalize handleRuns _ _ _ _ _ = handled
  split
  all_goals
    obtain ⟨n, closed⟩ := State.closeWorkings_scan stamp handled.1 _
    rw [closed]
    simp

/-- The filter on one lane: two equal raw presences in a row decide it, else it stays (R27). -/
theorem filterPresence_lane (raw last filtered : BitVec 32) (i : Nat) (lane : i < 32) :
    (filterPresence raw last filtered).getLsbD i =
      if raw.getLsbD i = last.getLsbD i then raw.getLsbD i else filtered.getLsbD i := by
  simp only [filterPresence, BitVec.getLsbD_or, BitVec.getLsbD_and, BitVec.getLsbD_not, BitVec.getLsbD_xor, lane, decide_true,
    Bool.true_and]
  cases raw.getLsbD i <;> cases last.getLsbD i <;> simp

/-- Settles O23: the filter decides each lane, and a scan's closings leave presence alone. -/
theorem presenceFollowsTwoEqualScans : Obligations.PresenceFollowsTwoEqualScans := by
  intro s stamp
  obtain ⟨lastRaw, filtered⟩ := s.processScan_presence stamp
  refine ⟨lastRaw, s.processScan_only stamp, fun i lane => ?_⟩
  rw [filtered, filterPresence_lane _ _ _ i lane]
  by_cases agree : s.scan.heldPresence.getLsbD i = s.scan.lastRaw.getLsbD i
  · by_cases settled : s.scan.heldPresence.getLsbD i = s.scan.filtered.getLsbD i
    · rw [if_pos agree, if_neg fun h => h.2 settled, settled]
    · rw [if_pos agree, if_pos ⟨agree, settled⟩]
  · rw [if_neg agree, if_neg fun h => agree h.1]

end Sys2Proof.Machine

/-! PROOF. CLEAR-HALT (R76): when it is refused, what leaving the halt set does to it, and the station state that follows (R77). -/

namespace Sys2Proof.Machine

/-! ## The halt set without an id -/

/-- An id removed is the only one that leaves the halt set (R72). -/
theorem State.inHaltSet_removeHalt (s : State) (id k : Nat) (station : k < 24) :
    (s.removeHalt id).inHaltSet k = (!decide (k = id) && s.inHaltSet k) := by
  by_cases leaves : k = id
  · subst leaves
    simp [State.inHaltSet, State.removeHalt, station]
  · simp [State.inHaltSet, State.removeHalt, station, leaves]

/-- From an empty halt set nothing can be removed. -/
theorem State.removeHalt_haltSet_of_empty (s : State) (id : Nat) (empty : s.haltSet = 0) : (s.removeHalt id).haltSet = 0 := by
  simp [State.removeHalt, empty]

/-! ## The station state after a removal (R77) -/

theorem State.setMode_of_eq (s : State) {m : Mode} (same : s.mode = m) : { s with mode := m } = s := by
  subst same
  rfl

/-- Unless RUN stands against ids in the halt set, and HELD is so entered, the station state alone is set again (R77). -/
theorem State.settleMode_of_run_empty (s : State) (runEmpty : s.mode = .run → s.haltSet = 0) :
    s.settleMode = { s with mode := if s.mode = .setup then .setup else if s.haltSet = 0 then .run else .held } := by
  unfold State.settleMode
  cases mode : s.mode with
  | setup => exact (s.setMode_of_eq mode).symm
  | run =>
    simp only [if_pos (runEmpty mode), reduceCtorEq, if_false]
    exact (s.setMode_of_eq mode).symm
  | held =>
    by_cases empty : s.haltSet = 0
    · simp only [if_pos empty, reduceCtorEq, if_false]
    · simp only [if_neg empty, reduceCtorEq, if_false]
      exact (s.setMode_of_eq mode).symm

theorem State.setMode_only (s : State) (m : Mode) : s.changesOnly { s with mode := m } [.mode] := by
  intro p hp
  cases p
  case mode => simp at hp
  all_goals rfl

/-! ## The command -/

theorem State.clearRefused_iff (s : State) (id : Nat) :
    s.clearRefused id ↔ 24 ≤ id ∨ id = s.strapId.toNat ∨ ∃ i : Fin 24, i.val = id ∧ (s.peers[i]).state = .live := by
  unfold State.clearRefused
  split
  case isTrue station =>
    have named : (s.peers[id]).state = .live ↔ ∃ i : Fin 24, i.val = id ∧ (s.peers[i]).state = .live :=
      ⟨fun live => ⟨⟨id, station⟩, rfl, live⟩, fun ⟨_, isId, live⟩ => by subst isId; exact live⟩
    rw [← named]
    simp [Nat.not_le.mpr station]
  case isFalse outside => simp [Nat.not_lt.mp outside]

theorem execClearHalt_refused (id : Byte) (s : State) (out : s.inReset = false) (refused : s.clearRefused id.toNat) :
    execClearHalt id s = .next (s.answered [1]) := by
  simp only [execClearHalt, State.act, out, refused, Bool.false_eq_true, if_true, if_false]
  rfl

/-- What a CLEAR-HALT that is not refused leaves: the id out of the halt set, the station state set again, and status OK. -/
def State.cleared (s : State) (id : Nat) : State := (s.removeHalt id).settleMode.answer .ok []

theorem execClearHalt_taken (id : Byte) (s : State) (out : s.inReset = false) (taken : ¬ s.clearRefused id.toNat) :
    execClearHalt id s = .next (s.cleared id.toNat) := by
  simp only [execClearHalt, State.act, out, taken, Bool.false_eq_true, if_false, State.cleared]

/-- Beside the halt set and the response, it changes what setting the station state again changes. -/
theorem State.cleared_only (s : State) (id : Nat) {ps : List Part}
    (settled : (s.removeHalt id).changesOnly (s.removeHalt id).settleMode ps) :
    s.changesOnly (s.cleared id) (.haltSet :: ps ++ portParts) := by
  have removed : s.changesOnly (s.removeHalt id).settleMode (.haltSet :: ps) :=
    (s.removeHalt_only id).then settled (by simp) fun _ h => .tail _ h
  exact removed.then (State.answer_only _ _ _) (fun _ => List.mem_append_left _) (fun _ => List.mem_append_right _)

theorem State.cleared_haltSet (s : State) (id : Nat) : (s.cleared id).haltSet = (s.removeHalt id).haltSet :=
  (s.removeHalt id).settleMode_only .haltSet (by simp)

/-- From a state whose halt set is empty in RUN, the station state follows the halt set left (R77). -/
theorem State.cleared_mode (s : State) (id : Nat) (runEmpty : s.mode = .run → s.haltSet = 0) :
    (s.cleared id).mode = if s.mode = .setup then .setup else if (s.cleared id).haltSet = 0 then .run else .held := by
  have settled := (s.removeHalt id).settleMode_of_run_empty fun run => s.removeHalt_haltSet_of_empty id (runEmpty run)
  rw [s.cleared_haltSet]
  exact congrArg State.mode settled

/-- Settles O38: a refusal answers BUSY at once; else one id leaves, and HELD is not entered by a removal from a sound halt set. -/
theorem clearHaltRemovesASilentPeer : Obligations.ClearHaltRemovesASilentPeer := by
  intro id s out
  refine ⟨fun refused => execClearHalt_refused id s out ((s.clearRefused_iff _).mpr refused), fun i isId notOwn silent => ?_⟩
  have taken : ¬ s.clearRefused id.toNat := by
    rw [s.clearRefused_iff]
    rintro (outside | own | ⟨j, isId', live⟩)
    · exact absurd (isId ▸ i.isLt) (Nat.not_lt.mpr outside)
    · exact notOwn own
    · obtain rfl : j = i := Fin.ext (isId'.trans isId.symm)
      exact silent live
  have whole := s.cleared_only id.toNat (s.removeHalt id.toNat).settleMode_only
  refine ⟨s.cleared id.toNat, execClearHalt_taken id s out taken, rfl, rfl, whole .peers (by simp), ?members, ?emptied, ?sound,
    whole.mono (by simp)⟩
  case members =>
    intro k station
    rw [← s.inHaltSet_removeHalt _ k station]
    exact congrArg (·.getLsbD k) (s.cleared_haltSet _)
  case emptied =>
    intro held empty
    rw [s.cleared_mode _ fun run => Mode.noConfusion (held.symm.trans run)]
    simp [held, empty]
  case sound =>
    rintro ⟨runEmpty, -⟩
    refine ⟨s.cleared_mode _ runEmpty, ?_⟩
    have settled := (s.removeHalt id.toNat).settleMode_of_run_empty fun run => s.removeHalt_haltSet_of_empty _ (runEmpty run)
    exact (s.cleared_only _ (settled ▸ State.setMode_only _ _)).mono (by simp)

end Sys2Proof.Machine

/-! PROOF. The class of a verdict (R108): what the best and the second of the scores are, and the class that stands out by them. -/

namespace Sys2Proof.Machine

/-! ## The best of some scores -/

theorem bestOf_cons (p : PieceClass × Nat) (rest : List (PieceClass × Nat)) :
    bestOf (p :: rest) = if (bestOf rest).2 ≤ p.2 then p else bestOf rest := rfl

theorem le_bestOf {ps : List (PieceClass × Nat)} {p : PieceClass × Nat} (listed : p ∈ ps) : p.2 ≤ (bestOf ps).2 := by
  induction ps with
  | nil => cases listed
  | cons q rest ih =>
    rw [bestOf_cons]
    split
    case isTrue first =>
      obtain rfl | later := List.mem_cons.mp listed
      · exact le_rfl
      · exact (ih later).trans first
    case isFalse first =>
      obtain rfl | later := List.mem_cons.mp listed
      · exact (Nat.not_le.mp first).le
      · exact ih later

theorem bestOf_mem {ps : List (PieceClass × Nat)} (nonempty : ps ≠ []) : bestOf ps ∈ ps := by
  induction ps with
  | nil => exact absurd rfl nonempty
  | cons q rest ih =>
    rw [bestOf_cons]
    split
    case isTrue => exact List.mem_cons_self
    case isFalse first =>
      have others : rest ≠ [] := by
        rintro rfl
        exact first (Nat.zero_le _)
      exact List.mem_cons_of_mem _ (ih others)

/-! ## The five scores with their classes -/

theorem Scores.mem_ranked (x : Scores) (p : PieceClass × Nat) : p ∈ x.ranked ↔ p.1 ≠ .unknown ∧ p.2 = x.of p.1 := by
  obtain ⟨c, n⟩ := p
  cases c <;> simp [Scores.ranked, Scores.of]

theorem Scores.ranked_nodup (x : Scores) : x.ranked.Nodup := by simp [Scores.ranked]

/-- The score set aside is the one of its class (R108): those left are the scores of the other classes. -/
theorem Scores.mem_ranked_erase (x : Scores) {best : PieceClass × Nat} (listed : best ∈ x.ranked) (p : PieceClass × Nat) :
    p ∈ x.ranked.erase best ↔ p.1 ≠ best.1 ∧ p ∈ x.ranked := by
  rw [x.ranked_nodup.mem_erase_iff]
  refine and_congr_left fun other => not_congr ⟨congrArg Prod.fst, fun sameClass => Prod.ext sameClass ?_⟩
  rw [((x.mem_ranked p).mp other).2, ((x.mem_ranked best).mp listed).2, sameClass]

theorem Scores.best_mem (x : Scores) : bestOf x.ranked ∈ x.ranked := bestOf_mem (List.cons_ne_nil _ _)

theorem Scores.second_mem (x : Scores) : bestOf (x.ranked.erase (bestOf x.ranked)) ∈ x.ranked.erase (bestOf x.ranked) := by
  refine bestOf_mem (List.ne_nil_of_length_pos ?_)
  rw [List.length_erase_of_mem x.best_mem]
  exact Nat.succ_pos 3

/-! ## The class that stands out -/

/-- The score of the class is at least T and at least M above the score of every other class. -/
def Scores.standsOut (x : Scores) (threshold margin : Nat) (c : PieceClass) : Prop :=
  c ≠ .unknown ∧ threshold ≤ x.of c ∧ ∀ d, d ≠ c → d ≠ .unknown → x.of d + margin ≤ x.of c

/-- With M at least 1 a class that stands out has the best score alone, so the scores give it (R108). -/
theorem Scores.classOf_of_standsOut {x : Scores} {threshold margin : Nat} {c : PieceClass} (positive : 1 ≤ margin)
    (out : x.standsOut threshold margin c) : x.classOf threshold margin = c := by
  obtain ⟨isClass, reaches, clear⟩ := out
  obtain ⟨bestIsClass, bestScore⟩ := (x.mem_ranked _).mp x.best_mem
  have highest : x.of c ≤ (bestOf x.ranked).2 := le_bestOf ((x.mem_ranked (c, x.of c)).mpr ⟨isClass, rfl⟩)
  have best : (bestOf x.ranked).1 = c := by
    by_contra other
    have above := clear _ other bestIsClass
    omega
  obtain ⟨secondOther, secondListed⟩ := (x.mem_ranked_erase x.best_mem _).mp x.second_mem
  obtain ⟨secondIsClass, secondScore⟩ := (x.mem_ranked _).mp secondListed
  have gap := clear _ (best ▸ secondOther) secondIsClass
  rw [← secondScore] at gap
  exact (if_pos ⟨reaches.trans highest, gap.trans highest⟩).trans best

/-- A class that the scores give stands out, since no other score is above the second (R108). -/
theorem Scores.standsOut_classOf {x : Scores} {threshold margin : Nat} (given : x.classOf threshold margin ≠ .unknown) :
    x.standsOut threshold margin (x.classOf threshold margin) := by
  unfold Scores.classOf at given ⊢
  dsimp only at given ⊢
  split at given
  case isFalse => exact absurd rfl given
  case isTrue decided =>
    rw [if_pos decided]
    obtain ⟨reaches, gap⟩ := decided
    have bestScore := ((x.mem_ranked _).mp x.best_mem).2
    refine ⟨given, bestScore ▸ reaches, fun d other isClass => ?_⟩
    have left : (d, x.of d) ∈ x.ranked.erase (bestOf x.ranked) :=
      (x.mem_ranked_erase x.best_mem _).mpr ⟨other, (x.mem_ranked _).mpr ⟨isClass, rfl⟩⟩
    calc x.of d + margin ≤ (bestOf (x.ranked.erase (bestOf x.ranked))).2 + margin := Nat.add_le_add_right (le_bestOf left) _
      _ ≤ (bestOf x.ranked).2 := gap
      _ = x.of (bestOf x.ranked).1 := bestScore

/-! ## The track after its verdict -/

/-- Coverage, length and target set decide neither the class nor the scores (R110 to R113). -/
theorem State.judged_class_scores (s : State) (t : Track) :
    (s.judged t).cls = s.record.verdictClass t ∧ (s.judged t).scores = t.scores := by
  unfold State.judged
  dsimp only
  split_ifs <;> exact ⟨rfl, rfl⟩

theorem Record.verdictClass_of_unmarked (r : Record) {t : Track} (unmarked : t.mark = none) :
    r.verdictClass t = t.scores.classOf r.threshold r.margin := by
  simp only [Record.verdictClass, unmarked]

/-- Settles O43: the scores give the class that stands out, and a class other than UNKNOWN only if it does. -/
theorem scoresGiveTheClass : Obligations.ScoresGiveTheClass := by
  intro s u unmarked positive
  obtain ⟨cls, scores⟩ := s.judged_class_scores u
  rw [cls, s.record.verdictClass_of_unmarked unmarked]
  refine ⟨fun c out => Scores.classOf_of_standsOut positive out, fun noClass => ?_, scores⟩
  by_contra given
  exact noClass _ (Scores.standsOut_classOf given)

end Sys2Proof.Machine

/-! PROOF. The ALERT output (R177): flags by their bits, levels and threshold in range, and the output they give. -/

namespace Sys2Proof.Machine

/-! ## Flags by their bits (Table 10-4) -/

theorem Flag.bit_surjective : Function.Surjective Flag.bit := by
  have listed : ∀ k : Fin 14, ∃ f ∈ [Flag.reverse, .stall, .scanSkip, .objOverflow, .mute, .dupId, .gaps, .rxOverrun,
      .peerLost, .held, .airLow, .chute, .watch, .trackFull], f.bit = k := by decide
  exact fun k => (listed k).imp fun _ named => named.2

theorem State.flags_eq_zero_iff (s : State) : s.flags = 0 ↔ ∀ f : Flag, s.flagSet f = false := by
  constructor
  case mp => exact fun clear f => by simp [State.flagSet, clear]
  case mpr =>
    refine fun clear => BitVec.eq_of_getLsbD_eq fun i inside => ?_
    obtain ⟨f, bit⟩ := Flag.bit_surjective ⟨i, inside⟩
    have unset := clear f
    rw [State.flagSet, bit] at unset
    rw [unset, BitVec.ofNat_eq_ofNat, BitVec.getLsbD_zero]

/-! ## Levels and threshold in their ranges (Table 10-3) -/

theorem Record.holds_of_inRange {r : Record} (sound : r.inRange) {f : Field} (listed : f ∈ recordFields) : r.holds f := by
  simp only [Record.inRange, Bool.and_eq_true] at sound
  obtain ⟨⟨fields, -⟩, -⟩ := sound
  exact List.all_eq_true.mp fields f listed

/-- A field of one unsigned byte lies between its bounds. -/
theorem Record.byteAt_bounds_of_inRange {r : Record} (sound : r.inRange) {offset lo hi : Nat}
    (listed : (⟨offset, 1, .unsigned lo hi⟩ : Field) ∈ recordFields) : lo ≤ r.byteAt offset ∧ r.byteAt offset ≤ hi := by
  simpa [Record.holds] using Record.holds_of_inRange sound listed

theorem Record.alertThreshold_pos {r : Record} (sound : r.inRange) : 0 < r.alertThreshold :=
  (Record.byteAt_bounds_of_inRange sound (offset := 115) (lo := 1) (hi := 8) (by decide)).1

theorem Record.alertLevel_le_seven {r : Record} (sound : r.inRange) (k : Fin 14) : r.alertLevel k ≤ 7 := by
  have listed : ∀ k : Fin 14, (⟨101 + k.val, 1, .unsigned 0 7⟩ : Field) ∈ recordFields := by decide
  exact (Record.byteAt_bounds_of_inRange sound (listed k)).2

theorem Record.cold_alertThreshold_le_level : ∀ k : Fin 14, Record.cold.alertThreshold ≤ Record.cold.alertLevel k := by
  decide

/-! ## The output (R177) -/

theorem State.alertLow_iff (s : State) :
    s.alertLow = true ↔ ∃ f : Flag, s.flagSet f = true ∧ s.record.alertThreshold ≤ s.record.alertLevel f.bit := by
  have driven : s.alertLow = true ↔
      ∃ k : Fin 14, s.flags.getLsbD k.val = true ∧ s.record.alertThreshold ≤ s.record.alertLevel k := by
    simp [State.alertLow]
  exact driven.trans Flag.bit_surjective.exists

theorem State.alertLow_eq_false_iff (s : State) :
    s.alertLow = false ↔ ∀ f : Flag, s.flagSet f = true → s.record.alertLevel f.bit < s.record.alertThreshold := by
  simp [← Bool.not_eq_true, s.alertLow_iff]

/-- Under the cold record every set flag drives the line. -/
theorem State.alertLow_iff_of_cold (s : State) (cold : s.record = Record.cold) : s.alertLow = true ↔ s.flags ≠ 0 := by
  rw [s.alertLow_iff, cold, Ne, s.flags_eq_zero_iff]
  simp [Record.cold_alertThreshold_le_level]

theorem State.alertLow_of_flags_eq_zero (s : State) (clear : s.flags = 0) : s.alertLow = false :=
  s.alertLow_eq_false_iff.mpr fun f set => absurd set (by simp [s.flags_eq_zero_iff.mp clear f])

/-- A cold start clears every flag when it begins and when it completes (R175). -/
theorem State.flags_of_coldStart {s t : State} {straps : BitVec 5}
    (began : exec (.coldStart straps) s = .next t ∨ exec .resetAssert s = .next t) : t.flags = 0 := by
  obtain completed | held := began
  · cases completed
    rfl
  · cases held
    rfl

/-- Settles O60: the bits of Table 10-4 are the flags, in range no level lies above 7 nor the threshold at 0, and a cold start
clears the flags. -/
theorem alertFollowsFlagsAndLevels : Obligations.AlertFollowsFlagsAndLevels := by
  intro s
  refine ⟨s.alertLow_iff, fun sound zero => ?level0, fun sound eight => ?threshold8, s.alertLow_iff_of_cold,
    fun straps t began => t.alertLow_of_flags_eq_zero (State.flags_of_coldStart began)⟩
  case level0 =>
    refine s.alertLow_eq_false_iff.mpr fun f set => ?_
    rw [zero f set]
    exact Record.alertThreshold_pos sound
  case threshold8 =>
    refine s.alertLow_eq_false_iff.mpr fun f _ => ?_
    rw [eight]
    exact Nat.lt_succ_of_le (Record.alertLevel_le_seven sound f.bit)

end Sys2Proof.Machine

/-! PROOF. What a command can do, said once: its effect is a chain of moves, each one small change of the part with the facts
under which it comes. Every invariant of a step is then a matter of its moves. -/

namespace Sys2Proof.Machine

/-! ## The moves -/

/-- The parts that the invariants of table, valves, transmitter, belt and capacities do not speak of. -/
abbrev asideParts : List Part :=
  [.localSightings, .peers, .haltSet, .operatorHalt, .monitor, .latest, .response, .outgoing, .freeCount]

/-- The scan unit within its capacities (R23, R29, R34). -/
def ScanUnit.fits (u : ScanUnit) : Prop :=
  u.waiting ≤ 255 ∧ u.objects.length ≤ 16 ∧ u.continuations.length ≤ 16

/-- No frame is being received. -/
abbrev LineStatus.free (x : LineStatus) : Prop := x = .waiting ∨ x = .idle

/-- One small change of the part. A sighting makes or joins a track only where `sights` holds. -/
inductive Move (sights : Prop) (s : State) : State → Prop where
  | aside {t : State} (only : s.changesOnly t asideParts) : Move sights s t
  | count (x : Tally) (n : Nat) : Move sights s (s.bumpBy x n)
  | raise (f : Flag) : Move sights s (s.raise f)
  | trace (x : TraceEntry) : Move sights s (s.record32 x)
  | inbox (es : List InboxEntry) (short : es.length ≤ s.inbox.length ∨ (es.length ≤ 16 ∧ s.mode ≠ .setup)) :
      Move sights s { s with inbox := es }
  | copies (es : List CopyEntry) (short : es.length ≤ s.copies.length ∨ es.length ≤ 8) : Move sights s { s with copies := es }
  | scan (u : ScanUnit) (fits : s.scan.fits → u.fits) : Move sights s { s with scan := u }
  | enqueueUrgent (u : Urgent) : Move sights s (s.enqueueUrgent u)
  | enqueueSighting (x : Sighting) : Move sights s (s.enqueueSighting x)
  | placeStatus : Move sights s s.placeStatus
  | begin : Move sights s s.begin
  | beaconDue (due : Option Time) (runs : s.mode = .setup → s.tx.beaconDue ≠ none) :
      Move sights s { s with tx := { s.tx with beaconDue := due } }
  | lineIdle (free : s.line.status.free) : Move sights s { s with line := { s.line with status := .idle } }
  | latch (free : s.line.status.free) : Move sights s s.latch
  | loseAttempt : Move sights s { s with tx := { s.tx with attempt := none } }
  | breakAttempt (a : Attempt) (sending : s.tx.attempt = some a) : Move sights s (s.breakFrame.chargeEntry a).countError
  | completeAttempt (a : Attempt) (sending : s.tx.attempt = some a) : Move sights s
      { s with
        tx := { s.tx.dropEntry a with attempt := none, sequence := s.tx.sequence + 1, consecutive := 0 }
        line := { s.line with status := .receiving true } }
  | endFrame (quiet : s.tx.attempt = none) : Move sights s s.endFrame
  | phase (n : Nat) (below : n < s.record.scanPitch ∨ n = 0) : Move sights s { s with belt := { s.belt with scanPhase := n } }
  | stop : Move sights s { s with belt := { s.belt with ring := [], measure := none, motion := .stopped } }
  | remove (id : Nat) : Move sights s (s.removeTrack id)
  | change (t : Track) (f : Track → Track) (listed : t ∈ s.tracks) (place : (f t).made = t.made ∧ (f t).aLead = t.aLead)
      (fits : t.fitsState → (f t).fitsState) (flies : (f t).inFlight → t.inFlight ∨ s.flights < 24)
      (holds : ∀ v, (f v).state = .firing → v.state = .firing) : Move sights s (s.updateTrack t.made f)
  | grant (t : Track) (f : Flight) (listed : t ∈ s.tracks) (launched : t.state = .launched) (flight : t.flight = some f)
      (granted : s.refusal t = none) : Move sights s
        ((s.serveValves t f.tClose).updateTrack t.made fun u => { u with state := .firing, valveSet := some (s.grantedSet t) })
  | valve (i : Fin 32) (v : Valve) (closes : v.isOpen → v = s.valves[i]) : Move sights s { s with valves := s.valves.set i v }
  | make (x : Track) (room : s.tracks.length < 64) (next : x.made = s.nextMade) (fits : x.fitsState)
      (collecting : x.state = .collecting) (sighted : sights) (operating : s.mode ≠ .setup) : Move sights s
        { s with tracks := placeTrack s.belt.count x s.tracks, nextMade := s.nextMade + 1 }
  | join (t : Track) (others : List Track) (x : Track) (listed : t ∈ s.tracks) (collecting : t.state = .collecting)
      (sighted : sights) : Move sights s
        { s with tracks := placeTrack s.belt.count (joined t others x) <|
                             s.tracks.filter fun u => !(t.made :: others.map Track.made).contains u.made }
  | hold (n : Nat) (run : s.mode = .run) (ended : ∀ t ∈ s.tracks, t.state ≠ .firing) : Move sights s
      { s with mode := .held, freeCount := n, valves := s.closeAllValves.valves }
  | release (held : s.mode = .held) : Move sights s { s with mode := .run }
  | start (setup : s.mode = .setup) : Move sights s
      { s with mode := .run, belt := { s.belt with scanPhase := 0 }, scan := { s.scan.cleared with serial := 0 } }

/-- The two moves at the valves, as a reader of other parts needs them. -/
theorem State.granted_only (s : State) (t : Track) (tClose : Time) (f : Track → Track) :
    s.changesOnly ((s.serveValves t tClose).updateTrack t.made f) [.tracks, .valves] :=
  (s.serveValves_only t tClose).then (State.updateTrack_only _ _ _) (by simp) (by simp)

theorem State.held_only (s : State) (n : Nat) :
    s.changesOnly { s with mode := .held, freeCount := n, valves := s.closeAllValves.valves } [.mode, .freeCount, .valves] := by
  generalize s.closeAllValves.valves = vs
  intro p hp
  cases p <;> first | rfl | simp at hp

/-- A chain of moves. -/
def Works (sights : Prop) : State → State → Prop := Relation.ReflTransGen (Move sights)

variable {sights : Prop}

theorem Move.mono {sights' : Prop} (sub : sights → sights') {s t : State} (h : Move sights s t) : Move sights' s t := by
  cases h with
  | aside only => exact .aside only
  | count => exact .count _ _
  | raise => exact .raise _
  | trace => exact .trace _
  | inbox _ short => exact .inbox _ short
  | copies _ short => exact .copies _ short
  | scan _ fits => exact .scan _ fits
  | enqueueUrgent => exact .enqueueUrgent _
  | enqueueSighting => exact .enqueueSighting _
  | placeStatus => exact .placeStatus
  | begin => exact .begin
  | beaconDue _ runs => exact .beaconDue _ runs
  | lineIdle free => exact .lineIdle free
  | latch free => exact .latch free
  | loseAttempt => exact .loseAttempt
  | breakAttempt _ sending => exact .breakAttempt _ sending
  | completeAttempt _ sending => exact .completeAttempt _ sending
  | endFrame quiet => exact .endFrame quiet
  | phase _ below => exact .phase _ below
  | stop => exact .stop
  | remove => exact .remove _
  | change _ _ listed place fits flies holds => exact .change _ _ listed place fits flies holds
  | grant _ _ listed launched flight granted => exact .grant _ _ listed launched flight granted
  | valve _ _ closes => exact .valve _ _ closes
  | make _ room next fits collecting sighted operating => exact .make _ room next fits collecting (sub sighted) operating
  | join _ _ _ listed collecting sighted => exact .join _ _ _ listed collecting (sub sighted)
  | hold _ run ended => exact .hold _ run ended
  | release held => exact .release held
  | start setup => exact .start setup

theorem Works.refl {s : State} : Works sights s s := Relation.ReflTransGen.refl

theorem Works.of {s t : State} (move : Move sights s t) : Works sights s t := Relation.ReflTransGen.single move

theorem Works.trans {s t u : State} (h : Works sights s t) (k : Works sights t u) : Works sights s u :=
  Relation.ReflTransGen.trans h k

/-- A move after a chain. -/
theorem Works.step {s t u : State} (h : Works sights s t) (move : Move sights t u) : Works sights s u := h.trans (.of move)

theorem Works.mono {sights' : Prop} (sub : sights → sights') {s t : State} (h : Works sights s t) : Works sights' s t :=
  Relation.ReflTransGen.mono (fun _ _ => Move.mono sub) _ _ h

/-- What every move keeps, a chain of moves keeps. -/
theorem Works.keeps {P : State → Prop} (kept : ∀ s t, Move sights s t → P s → P t) {s t : State} (h : Works sights s t)
    (sound : P s) : P t := by
  induction h with
  | refl => exact sound
  | tail _ last ih => exact kept _ _ last ih

/-- A relation that every move gives, a chain of moves gives. -/
theorem Works.relates {R : State → State → Prop} (refl : ∀ s, R s s) (trans : ∀ s t u, R s t → R t u → R s u)
    (kept : ∀ s t, Move sights s t → R s t) {s t : State} (h : Works sights s t) : R s t := by
  induction h with
  | refl => exact refl s
  | tail _ last ih => exact trans _ _ _ ih (kept _ _ last)

theorem Works.aside {s t : State} {ps : List Part} (only : s.changesOnly t ps) (sub : ∀ p ∈ ps, p ∈ asideParts) :
    Works sights s t := .of (.aside (only.mono sub))

theorem Works.ite {s t u : State} (c : Prop) [Decidable c] (h : c → Works sights s t) (k : ¬ c → Works sights s u) :
    Works sights s (if c then t else u) := by
  split
  case isTrue hc => exact h hc
  case isFalse hc => exact k hc

theorem Works.foldl {α : Type} {f : State → α → State} (h : ∀ (s : State) (a : α), Works sights s (f s a)) (xs : List α) :
    ∀ s : State, Works sights s (xs.foldl f s) := by
  induction xs with
  | nil => exact fun s => .refl
  | cons a xs ih => exact fun s => (h s a).trans (ih (f s a))

/-! ## Tallies, flags and port -/

theorem State.bumpBy_works (s : State) (x : Tally) (n : Nat) : Works sights s (s.bumpBy x n) := .of (.count x n)

theorem State.bump_works (s : State) (x : Tally) : Works sights s (s.bump x) := s.bumpBy_works x 1

theorem State.raise_works (s : State) (f : Flag) : Works sights s (s.raise f) := .of (.raise f)

/-- A tally counted and its flag raised. -/
theorem State.bump_raise_works (s : State) (x : Tally) (f : Flag) : Works sights s ((s.bump x).raise f) :=
  (s.bump_works x).trans (State.raise_works _ f)

theorem State.answer_works (s : State) (status : PortStatus) (rest : List Byte) : Works sights s (s.answer status rest) :=
  .aside (s.answer_only _ _) (by simp)

theorem State.reply_works (s : State) (values : List PortValue) (waits : List Nat) : Works sights s (s.reply values waits) :=
  .aside (s.reply_only _ _) (by simp)

theorem State.formValue_works (s : State) : Works sights s s.formValue := .aside s.formValue_only (by simp)

theorem State.dropResponse_works (s : State) : Works sights s s.dropResponse := by
  refine .of (.aside fun p hp => ?_)
  cases p <;> first | rfl | simp at hp

/-! ## Link transmitter -/

theorem State.begin_works (s : State) : Works sights s s.begin := .of .begin

theorem State.offer_works (s : State) (u : Urgent) : Works sights s (s.offer u) :=
  (Works.of (.enqueueUrgent u)).trans (State.begin_works _)

theorem State.offerSighting_works (s : State) (x : Sighting) : Works sights s (s.offerSighting x) :=
  (Works.of (.enqueueSighting x)).trans (State.begin_works _)

/-! ## The end of a track -/

theorem State.countEnd_works (s : State) (t : Track) (e : TrackEnd) : Works sights s (s.countEnd t e) := by
  unfold State.countEnd
  exact .ite _ (fun _ => (s.bump_works _).trans (State.bump_works _ _)) fun _ => s.bump_works _

theorem State.endTrack_works (s : State) (t : Track) (e : TrackEnd) : Works sights s (s.endTrack t e) :=
  ((Works.of (.remove t.made)).trans (State.countEnd_works _ t e)).trans (.of (.trace _))

theorem State.missTrack_works (s : State) (t : Track) (reason : MissReason) : Works sights s (s.missTrack t reason) :=
  (s.endTrack_works t _).trans (State.offer_works _ _)

theorem State.mem_of_findTrack {s : State} {id : Nat} {t : Track} (found : s.findTrack id = some t) : t ∈ s.tracks :=
  List.mem_of_find?_eq_some found

theorem State.made_of_findTrack {s : State} {id : Nat} {t : Track} (found : s.findTrack id = some t) : t.made = id := by
  simpa using List.find?_some found

theorem State.settleTrack_works (s : State) (id : Nat) : Works sights s (s.settleTrack id) := by
  unfold State.settleTrack
  split
  · exact .refl
  · split
    · exact .ite _ (fun _ => s.endTrack_works _ _) fun _ => .refl
    · exact .refl

/-! ## Requests and launches -/

theorem State.grant_works (s : State) (t : Track) (f : Flight) (listed : t ∈ s.tracks) (launched : t.state = .launched)
    (flight : t.flight = some f) (granted : s.refusal t = none) : Works sights s (s.grant t f) := by
  unfold State.grant
  refine Works.trans ?_ (State.settleTrack_works _ _)
  exact (Works.of (.grant t f listed launched flight granted)).trans (State.offer_works _ _)

theorem State.request_works (s : State) (id : Nat) : Works sights s (s.request id) := by
  unfold State.request
  split
  · exact .refl
  next t found =>
    split
    next f launched flight =>
      split
      · exact s.missTrack_works _ _
      next granted => exact s.grant_works t f (State.mem_of_findTrack found) launched flight granted
    · exact .refl

theorem State.openIfDue_works (s : State) (id : Nat) : Works sights s (s.openIfDue id) := by
  unfold State.openIfDue
  split
  · exact .refl
  · split
    · exact .refl
    · refine .ite _ (fun _ => ?_) fun _ => .refl
      split
      · exact s.request_works _
      · exact s.endTrack_works _ _
      · exact .refl

/-- A track of no flight joins the flight list below its capacity (R137, R138, R144). -/
theorem State.fly_works (s : State) (t : Track) (launch : Time) (delta : Nat) (next : TrackState) (listed : t ∈ s.tracks)
    (room : s.flights < 24) (from_ : t.state = .armed ∨ t.state = .watching) (to_ : next = .launched ∨ next = .coasting) :
    Works sights s (s.fly t launch delta next) := by
  refine Works.trans (.of (.change t _ listed ⟨rfl, rfl⟩ ?fits (fun _ => .inr room) ?holds))
    (State.openIfDue_works _ _)
  case fits =>
    rintro ⟨flight, valveSet, mark, -, -, double, short⟩
    rcases from_ with state | state <;> rcases to_ with rfl | rfl <;>
      simp_all [Track.fitsState, Track.inFlight]
  case holds =>
    intro v firing
    rcases to_ with rfl | rfl <;> simp at firing

theorem State.launchArmed_works (s : State) (t : Track) (launch : Time) (measure : Option Time) (listed : t ∈ s.tracks)
    (armed : t.state = .armed) : Works sights s (s.launchArmed t launch measure) := by
  unfold State.launchArmed
  split
  · exact s.missTrack_works _ _
  · refine .ite _ (fun _ => s.missTrack_works _ _) fun room => ?_
    exact s.fly_works t launch _ _ listed (Nat.lt_of_not_le room) (.inl armed) (.inl rfl)

theorem State.launchWatching_works (s : State) (t : Track) (launch : Time) (measure : Option Time) (listed : t ∈ s.tracks)
    (watching : t.state = .watching) : Works sights s (s.launchWatching t launch measure) := by
  unfold State.launchWatching
  split
  · exact s.endTrack_works _ _
  · refine .ite _ (fun _ => s.endTrack_works _ _) fun room => ?_
    exact s.fly_works t launch _ _ listed (Nat.lt_of_not_le room) (.inr watching) (.inr rfl)

/-! ## Verdicts and sightings -/

/-- What a verdict leaves of a track: all but class, mark, state and its two flags; the state is then ARMED or WATCHING. -/
theorem State.judged_eq (s : State) (t : Track) :
    s.judged t = { t with cls := (s.judged t).cls, mark := none, state := (s.judged t).state,
                          degraded := (s.judged t).degraded, oversize := (s.judged t).oversize }
      ∧ ((s.judged t).state = .armed ∨ (s.judged t).state = .watching) := by
  unfold State.judged
  dsimp only
  split
  · by_cases sweep : s.record.sweep = true <;> simp [sweep]
  · split
    · simp
    · split <;> simp

theorem State.judge_works (s : State) (t : Track) (listed : t ∈ s.tracks) (collecting : t.state = .collecting) :
    Works sights s (s.judge t) := by
  obtain ⟨same, state⟩ := s.judged_eq t
  have changed : Works sights s (s.updateTrack t.made fun _ => s.judged t) := by
    refine .of (.change t _ listed ?place ?fits ?flies ?holds)
    case place => rw [same]; exact ⟨rfl, rfl⟩
    case fits =>
      rintro ⟨flight, valveSet, -, -, trimmed, double, short⟩
      rw [same]
      clear same
      rcases state with state | state <;> simp_all [Track.fitsState, Track.inFlight]
    case flies =>
      intro flying
      rcases state with state | state <;> simp only [Track.inFlight, state, Bool.false_eq_true] at flying
    case holds => rcases state with state | state <;> simp [state]
  unfold State.judge
  exact .ite _ (fun _ => changed.trans (State.offer_works _ _)) fun _ => changed

theorem State.judgeIfDue_works (s : State) (id : Nat) : Works sights s (s.judgeIfDue id) := by
  unfold State.judgeIfDue
  split
  · exact .refl
  next t found => exact .ite _ (fun due => s.judge_works t (State.mem_of_findTrack found) due.1) fun _ => .refl

theorem State.associate_works (s : State) (e : Evidence) (operating : s.mode ≠ .setup) :
    Works True s (s.associate (s.record.newTrack e s.nextMade)) := by
  unfold State.associate
  dsimp only
  split
  next t others collecting =>
    have listed := List.mem_filter.mp (collecting ▸ List.mem_cons_self : t ∈ List.filter _ _)
    have inTable := List.mem_of_mem_filter listed.1
    exact (Works.of (.join t others _ inTable (by simpa using listed.2) trivial)).trans
      (State.judgeIfDue_works _ _)
  · refine .ite _ (fun _ => ?_) fun _ => s.bump_works _
    unfold State.make
    refine .ite _ (fun _ => s.bump_raise_works _ _) fun room => ?_
    refine Works.trans (.of (.make _ (Nat.lt_of_not_le room) rfl ?_ rfl trivial operating)) (State.judgeIfDue_works _ _)
    simp [Track.fitsState, Track.inFlight, Record.newTrack]

theorem State.workSighting_works (s : State) (e : Evidence) (operating : s.mode ≠ .setup) :
    Works True s (s.workSighting e) := by
  unfold State.workSighting
  refine .ite _ (fun _ => .refl) fun _ => .ite _ (fun _ => s.bump_works _) fun _ => ?_
  exact .ite _ (fun _ => s.bump_works _) fun _ => s.associate_works e operating

theorem State.beltEvent_works (stamp : Time) (s : State) (id : Nat) : Works sights s (State.beltEvent stamp s id) := by
  unfold State.beltEvent
  split
  · exact .refl
  next t found =>
    have listed := State.mem_of_findTrack found
    refine .ite _ (fun _ => ?_) fun _ => .refl
    split
    next collecting => exact s.judge_works t listed collecting
    next armed => exact s.launchArmed_works t _ _ listed armed
    next watching => exact s.launchWatching_works t _ _ listed watching
    all_goals exact .refl

theorem State.beltEvents_works (s : State) (stamp : Time) : Works sights s (s.beltEvents stamp) :=
  Works.foldl (State.beltEvent_works stamp) _ s

/-! ## Curtain coordination -/

/-- A COLLECTING track takes a pending mark (R109). -/
theorem State.mark_works (s : State) (t : Track) (m : Track → Option Mark) (listed : t ∈ s.tracks)
    (collecting : t.state = .collecting) : Works sights s (s.updateTrack t.made fun u => { u with mark := m u }) := by
  refine .of (.change t _ listed ⟨rfl, rfl⟩ ?_ .inl fun _ firing => firing)
  rintro ⟨flight, valveSet, -, fresh, trimmed, double, short⟩
  exact ⟨flight, valveSet, fun _ => collecting, fresh, trimmed, double, short⟩

theorem State.arm_works (s : State) (t : Track) (c : PieceClass) (tally : Tally) (listed : t ∈ s.tracks)
    (watching : t.state = .watching) : Works sights s (s.arm t c tally) := by
  refine Works.trans (.of (.change t _ listed ⟨rfl, rfl⟩ ?_ ?_ ?_)) (State.bump_works _ _)
  · rintro ⟨flight, valveSet, mark, -, trimmed, double, short⟩
    simp_all [Track.fitsState, Track.inFlight]
  · simp [Track.inFlight]
  · simp

theorem State.recompute_works (s : State) (t : Track) (c : PieceClass) (kept tooLate : Tally) (listed : t ∈ s.tracks)
    (coasting : t.state = .coasting) : Works sights s (s.recompute t c kept tooLate) := by
  unfold State.recompute
  split
  · exact .refl
  · refine .ite _ (fun _ => ?_) fun _ => s.bump_works _
    refine Works.trans (.of (.change t _ listed ⟨rfl, rfl⟩ ?_ ?_ ?_)) (State.bump_works _ _)
    · rintro ⟨flight, valveSet, mark, -, trimmed, double, short⟩
      simp_all [Track.fitsState, Track.inFlight]
    · simp [Track.inFlight, coasting]
    · simp

theorem State.claimEffect_works (s : State) (t : Track) (c : PieceClass) (listed : t ∈ s.tracks) :
    Works sights s (s.claimEffect t c) := by
  unfold State.claimEffect
  split
  next collecting => exact s.mark_works t _ listed collecting
  next watching => exact .ite _ (fun _ => s.arm_works t c _ listed watching) fun _ => .refl
  next coasting => exact .ite _ (fun _ => s.recompute_works t c _ _ listed coasting) fun _ => .refl
  iterate 2 exact .ite _ (fun _ => .refl) fun _ => s.bump_works _
  · exact s.bump_works _

theorem State.firedEffect_works (s : State) (t : Track) (listed : t ∈ s.tracks) : Works sights s (s.firedEffect t) := by
  unfold State.firedEffect
  split
  case h_6 firing =>
    refine .of (.change t _ listed ⟨rfl, rfl⟩ ?_ .inl fun _ firing => firing)
    rintro ⟨flight, valveSet, mark, fresh, trimmed, -, short⟩
    exact ⟨flight, valveSet, mark, fresh, trimmed, fun _ => firing, short⟩
  all_goals exact s.endTrack_works _ _

theorem State.missedEffect_works (s : State) (t : Track) (c : PieceClass) (listed : t ∈ s.tracks) :
    Works sights s (s.missedEffect t c) := by
  unfold State.missedEffect
  split
  next collecting => exact s.mark_works t _ listed collecting
  next watching => exact s.arm_works t c _ listed watching
  next coasting => exact s.recompute_works t c _ _ listed coasting
  all_goals exact .refl

theorem State.mem_of_matchFrame {s : State} {o : OutcomeBody} {cSof : Count} {t : Track}
    (found : s.matchFrame o cSof = some t) : t ∈ s.tracks := by
  unfold State.matchFrame at found
  split at found
  next anchored => exact Option.some.inj found ▸ List.mem_of_find?_eq_some anchored
  · exact List.mem_of_find?_eq_some found

theorem State.matched_works (s : State) (o : OutcomeBody) (cSof : Count) (effect : State → Track → State)
    (works : ∀ t ∈ s.tracks, Works sights s (effect s t)) : Works sights s (s.matched o cSof effect) := by
  unfold State.matched
  split
  next t found => exact works t (State.mem_of_matchFrame found)
  · exact s.bump_works _

end Sys2Proof.Machine

/-! PROOF. The moves of whole commands: station state, monitor, scan unit, belt, receiver and port; and what a command and a step
can do. -/

namespace Sys2Proof.Machine

variable {sights : Prop}

/-! ## Entering HELD (R78) -/

/-- Ending a track with SHORT takes its number out of the table, and nothing when no track has it. -/
theorem State.endShort_tracks (s : State) (id : Nat) :
    (s.endShort id).tracks = s.tracks.filter fun t => decide (t.made ≠ id) := by
  unfold State.endShort
  split
  next unknown =>
    rw [List.filter_eq_self.mpr]
    exact fun t listed => by simpa using List.find?_eq_none.mp unknown t listed
  next t found =>
    obtain ⟨gone, -, -⟩ := s.endTrack_ends { t with short := true } .fired
    rw [gone, State.made_of_findTrack found]

/-- Ending tracks one after another with SHORT leaves those whose numbers are not among theirs. -/
theorem State.endShorts_tracks (ids : List Nat) : ∀ s : State,
    (ids.foldl State.endShort s).tracks = s.tracks.filter fun t => decide (t.made ∉ ids) := by
  induction ids with
  | nil => exact fun s => (List.filter_eq_self.mpr (by simp)).symm
  | cons id rest ih =>
    intro s
    rw [List.foldl_cons, ih, s.endShort_tracks, List.filter_filter]
    congr 1
    funext t
    by_cases h : t.made = id <;> simp [h]

theorem State.mem_firingOrder (s : State) (id : Nat) :
    id ∈ s.firingOrder ↔ ∃ t ∈ s.tracks, t.state = .firing ∧ t.made = id := by
  unfold State.firingOrder
  dsimp only
  rw [(arrange_perm _ _ _ (Nat.le_refl _)).mem_iff]
  simp [and_assoc]

/-- The FIRING tracks ended, none stands in the table. -/
theorem State.endShorts_firingOrder (s : State) :
    ∀ t ∈ (s.firingOrder.foldl State.endShort s).tracks, t.state ≠ .firing := by
  intro t listed firing
  rw [s.endShorts_tracks, List.mem_filter] at listed
  obtain ⟨inTable, left⟩ := listed
  exact of_decide_eq_true left ((s.mem_firingOrder _).mpr ⟨t, inTable, firing, rfl⟩)

theorem State.endShort_works (s : State) (id : Nat) : Works sights s (s.endShort id) := by
  unfold State.endShort
  split
  · exact .refl
  · -- the mark SHORT reaches the trace alone: the track itself leaves the table
    exact s.endTrack_works _ _

/-- The end of a track reads neither station state nor valves. -/
theorem State.endShort_beside (s : State) (m : Mode) (vs : Vector Valve 32) (n : Nat) (id : Nat) :
    State.endShort { s with mode := m, valves := vs, freeCount := n } id =
      { State.endShort s id with mode := m, valves := vs, freeCount := n } := by
  have found : State.findTrack { s with mode := m, valves := vs, freeCount := n } id = s.findTrack id := rfl
  unfold State.endShort
  rw [found]
  split
  · rfl
  · unfold State.endTrack State.countEnd
    dsimp only
    split <;> rfl

theorem State.endShorts_beside (m : Mode) (vs : Vector Valve 32) (n : Nat) (ids : List Nat) : ∀ s : State,
    ids.foldl State.endShort { s with mode := m, valves := vs, freeCount := n } =
      { ids.foldl State.endShort s with mode := m, valves := vs, freeCount := n } := by
  induction ids with
  | nil => exact fun s => rfl
  | cons id rest ih => exact fun s => by rw [List.foldl_cons, List.foldl_cons, s.endShort_beside, ih]

/-- Entering HELD, with the FIRING tracks ended before valves and station state change. -/
theorem State.enterHeld_eq (s : State) :
    s.enterHeld =
      (({ (s.firingOrder.foldl State.endShort s) with
            mode := .held, freeCount := s.freeCount + s.firingOrder.length
            valves := s.closeAllValves.valves }.bump .held).raise .held) := by
  unfold State.enterHeld
  exact congrArg (fun x : State => (x.bump .held).raise .held) (State.endShorts_beside .held _ _ _ s)

theorem State.enterHeld_works (s : State) (run : s.mode = .run) : Works sights s s.enterHeld := by
  rw [s.enterHeld_eq]
  refine Works.trans ?_ (State.bump_raise_works _ _ _)
  have ended : s.changesOnly (s.firingOrder.foldl State.endShort s) endParts :=
    State.changesOnly.foldl State.endShort State.endShort_only _ s
  have same : s.closeAllValves.valves = (s.firingOrder.foldl State.endShort s).closeAllValves.valves := by
    simp only [State.closeAllValves]
    rw [ended .belt (by simp), ended .record (by simp), ended .valves (by simp)]
  rw [same]
  exact (Works.foldl State.endShort_works s.firingOrder s).trans
    (.of (.hold _ ((ended .mode (by simp)).trans run) s.endShorts_firingOrder))

theorem State.settleMode_works (s : State) : Works sights s s.settleMode := by
  unfold State.settleMode
  split
  · exact .refl
  next run => exact .ite _ (fun _ => .refl) fun _ => s.enterHeld_works run
  next held => exact .ite _ (fun _ => .of (.release held)) fun _ => .refl

theorem State.ownHaltChanged_works (s : State) (was : Bool) (cause : HaltCause) :
    Works sights s (s.ownHaltChanged was cause) := by
  unfold State.ownHaltChanged
  refine .ite _ (fun _ => .refl) fun _ => .ite _ (fun _ => ?_) fun _ => ?_
  · refine Works.trans ?_ (State.settleMode_works _)
    exact (Works.aside ((s.addHalt_only _).then (State.ownFlag_only _ _) (rs := asideParts) (by simp) (by simp))
      fun _ h => h).trans (State.offer_works _ _)
  · refine Works.trans ?_ (State.settleMode_works _)
    exact (Works.aside ((s.removeHalt_only _).then (State.ownFlag_only _ _) (rs := asideParts) (by simp) (by simp))
      fun _ h => h).trans (State.offer_works _ _)

theorem State.setOperator_works (s : State) (on : Bool) : Works sights s (s.setOperator on) := by
  refine Works.trans (.of (.aside ?_)) (State.ownHaltChanged_works _ _ _)
  intro p hp
  cases p <;> first | rfl | simp at hp

/-! ## Monitor unit -/

theorem State.setMonitor_works (s : State) (m : Monitor) : Works sights s { s with monitor := m } :=
  .aside (s.setMonitor_only m) (by simp)

theorem State.setAir_works (s : State) (low : Bool) : Works sights s (s.setAir low) := by
  unfold State.setAir
  exact .ite _ (fun _ => (s.setMonitor_works _).trans (State.raise_works _ _)) fun _ => s.setMonitor_works _

theorem State.setChute_works (s : State) (notReady : Bool) : Works sights s (s.setChute notReady) := by
  unfold State.setChute
  exact .ite _ (fun _ => (s.setMonitor_works _).trans (State.raise_works _ _)) fun _ => s.setMonitor_works _

theorem State.setDoor_works (s : State) (isOpen : Bool) : Works sights s (s.setDoor isOpen) :=
  (s.setMonitor_works _).trans (State.ownHaltChanged_works _ _ _)

theorem State.setStop_works (s : State) (requested : Bool) : Works sights s (s.setStop requested) :=
  (s.setMonitor_works _).trans (State.ownHaltChanged_works _ _ _)

theorem State.setDoorStop_works (s : State) (isOpen requested : Bool) : Works sights s (s.setDoorStop isOpen requested) := by
  have counted : Works sights s { s with freeCount := s.freeCount + 1 } := by
    refine .of (.aside fun p hp => ?_)
    cases p <;> first | rfl | simp at hp
  unfold State.setDoorStop
  refine .ite _ (fun _ => .ite _ (fun _ => ?_) fun _ => ?_) fun _ => (s.setDoor_works _).trans (State.setStop_works _ _)
  · exact (counted.trans (State.setDoor_works _ _)).trans (State.setStop_works _ _)
  · exact (counted.trans (State.setStop_works _ _)).trans (State.setDoor_works _ _)

theorem State.evaluateConditions_works (s : State) : Works sights s s.evaluateConditions :=
  ((s.setAir_works _).trans (State.setChute_works _ _)).trans (State.setDoorStop_works _ _ _)

theorem State.evaluateWatch_works (s : State) : Works sights s s.evaluateWatch := by
  unfold State.evaluateWatch
  split
  case h_4 => exact (s.setMonitor_works _).trans (State.bump_raise_works _ _ _)
  all_goals first | exact .refl | exact s.setMonitor_works _

/-! ## Scan unit -/

theorem replaceTouched_length (run : Span) (w : Working) (ws : List Working) :
    (replaceTouched run w ws).length ≤ ws.length := by
  induction ws with
  | nil => exact Nat.le_refl _
  | cons x rest ih =>
    unfold replaceTouched
    split
    · exact Nat.succ_le_succ (List.length_filter_le _ _)
    · exact Nat.succ_le_succ ih

/-- A run handled keeps the working list within 16 objects (R29). -/
theorem handleRun_length (stamp : Count) (mags : Vector Byte 32) (conts : List Span) (ws : List Working) (run : Span)
    (within : ws.length ≤ 16) : (handleRun stamp mags conts ws run).1.length ≤ 16 := by
  unfold handleRun
  dsimp only
  split
  · split
    · exact within
    next room =>
      simp only [Config.maxObjects] at room
      simp only [List.length_append, List.length_singleton]
      omega
  · exact (replaceTouched_length _ _ _).trans within
  · exact (replaceTouched_length _ _ _).trans within

theorem handleRuns_length (stamp : Count) (mags : Vector Byte 32) (conts : List Span) (runs : List Span) :
    ∀ ws : List Working, ws.length ≤ 16 → (handleRuns stamp mags conts ws runs).1.length ≤ 16 := by
  induction runs with
  | nil => exact fun ws within => within
  | cons run rest ih => exact fun ws within => ih _ (handleRun_length _ _ _ _ _ within)

theorem State.handOver_works (s : State) (x : Sighting) : Works sights s (s.handOver x) :=
  .aside (s.handOver_only x) (by simp)

theorem State.closeObject_works (s : State) (o : OpenObject) (cut : Bool) : Works sights s (s.closeObject o cut) := by
  unfold State.closeObject
  refine .ite _ (fun _ => s.bump_works _) fun _ => ?_
  refine Works.trans ?_ (State.handOver_works _ _)
  have numbered : Works sights s { s with scan := { s.scan with serial := s.scan.serial + 1 } } := .of (.scan _ fun fits => fits)
  exact numbered.trans (State.offerSighting_works _ _)

theorem State.closeWorking_works (stamp : Count) (s : State) (w : Working) :
    Works sights s (State.closeWorking stamp s w) := by
  unfold State.closeWorking
  split
  · exact .refl
  · exact s.closeObject_works _ _
  · exact s.closeObject_works _ _

/-- The objects of a scan as its runs leave them, and the number of runs ignored (R28 to R31). -/
def State.handled (s : State) (stamp : Count) : List Working × Nat :=
  handleRuns stamp s.scan.heldMagnitudes s.scan.continuations (s.scan.objects.map OpenObject.working)
    (runsOf (filterPresence s.scan.heldPresence s.scan.lastRaw s.scan.filtered))

/-- The scan unit before the closings of a scan (R27, R32 to R34). -/
def State.scanned (s : State) (stamp : Count) : ScanUnit :=
  { s.scan with
    lastRaw := s.scan.heldPresence
    filtered := filterPresence s.scan.heldPresence s.scan.lastRaw s.scan.filtered
    objects := ((s.handled stamp).1.filter fun w => w.closing stamp s.record.maxSightingLength = .open_).map Working.obj
    continuations := ((s.handled stamp).1.filter fun w =>
      w.closing stamp s.record.maxSightingLength = .cut).map fun w => w.obj.lastScanSpan }

/-- Ignored runs counted (R29). -/
def State.countIgnored (s : State) (n : Nat) : State := if n = 0 then s else (s.bumpBy .objOverflow n).raise .objOverflow

theorem State.processScan_eq (s : State) (stamp : Count) :
    s.processScan stamp =
      (s.handled stamp).1.foldl (State.closeWorking stamp)
        (State.countIgnored { s with scan := s.scanned stamp } (s.handled stamp).2) := rfl

theorem State.countIgnored_works (s : State) (n : Nat) : Works sights s (s.countIgnored n) :=
  .ite _ (fun _ => .refl) fun _ => (s.bumpBy_works _ _).trans (State.raise_works _ _)

theorem State.scanned_fits (s : State) (stamp : Count) (fits : s.scan.fits) : (s.scanned stamp).fits := by
  obtain ⟨waiting, objects, -⟩ := fits
  have handled : (s.handled stamp).1.length ≤ 16 := handleRuns_length _ _ _ _ _ (by simpa using objects)
  refine ⟨waiting, ?_, ?_⟩ <;>
    exact (Nat.le_of_eq (List.length_map _)).trans ((List.length_filter_le _ _).trans handled)

theorem State.processScan_works (s : State) (stamp : Count) : Works sights s (s.processScan stamp) := by
  rw [s.processScan_eq]
  refine Works.trans ?_ (Works.foldl (State.closeWorking_works stamp) _ _)
  exact (Works.of (.scan (s.scanned stamp) (s.scanned_fits stamp))).trans (State.countIgnored_works _ _)

theorem State.processWaiting_works (n : Nat) : ∀ (s : State) (stamp : Count), Works sights s (s.processWaiting stamp n) := by
  induction n with
  | zero => exact fun s _ => .refl
  | succ n ih => exact fun s stamp => (s.processScan_works _).trans (ih _ _)

theorem State.skipScan_works (s : State) : Works sights s s.skipScan := s.bump_raise_works _ _

theorem State.ownScan_works (s : State) (stamp : Count) (void : Bool) (status : Byte) (mags : Vector Byte 32) :
    Works sights s (s.ownScan stamp void status mags) := by
  unfold State.ownScan
  refine .ite _ (fun _ => .refl) fun _ => .ite _ (fun _ => ?_) fun _ => s.skipScan_works.trans (State.processScan_works _ _)
  have held : Works sights s (s.holdLine mags) :=
    .of (.scan { s.scan with heldPresence := s.record.rawPresence mags, heldMagnitudes := s.record.readLine mags } fun fits => fits)
  exact held.trans (State.processScan_works _ _)

theorem State.scanEvent_works (s : State) : Works sights s s.scanEvent := by
  unfold State.scanEvent
  split
  · exact .of (.scan _ fun fits => fits)
  · refine .ite _ (fun _ => s.skipScan_works) fun room => ?_
    refine Works.trans (.of (.scan _ ?_)) (State.skipScan_works _)
    rintro ⟨-, objects, continuations⟩
    exact ⟨Nat.lt_of_not_le room, objects, continuations⟩

/-! ## Belt -/

theorem State.countPhase_works (s : State) : Works sights s s.countPhase := by
  unfold State.countPhase
  refine .ite _ (fun _ => .ite _ (fun _ => ?_) fun below => ?_) fun _ => .refl
  · exact Works.trans (.of (.phase 0 (.inr rfl))) (State.scanEvent_works _)
  · exact .of (.phase _ (.inl (Nat.lt_of_not_le below)))

/-- An advance: the belt counter's own part, and moves. -/
theorem State.advance_works (s : State) (stamp : Time) :
    Works sights { s with belt := s.belt.advance stamp } (s.advance stamp) :=
  (State.countPhase_works _).trans (State.beltEvents_works _ _)

theorem State.reverseEdge_works (s : State) : Works sights s s.reverseEdge := s.bump_raise_works _ _

theorem State.enterStall_works (s : State) : Works sights s s.enterStall :=
  Works.trans (.of .stop) (State.bump_raise_works _ _ _)

/-! ## START -/

theorem State.ownEntry_works (s : State) : Works sights s s.ownEntry := .aside s.ownEntry_only (by simp)

theorem State.startHalt_works (s : State) : Works sights s s.startHalt := by
  unfold State.startHalt
  exact .ite _ (fun _ => .of (.enqueueUrgent _)) fun _ => .refl

theorem State.started_works (s : State) (setup : s.mode = .setup) : Works sights s s.started := by
  unfold State.started
  dsimp only
  refine Works.trans ?_ (State.begin_works _)
  refine Works.trans ?_ (State.settleMode_works _)
  refine Works.trans ?_ (State.evaluateWatch_works _)
  refine Works.trans ?_ (State.startHalt_works _)
  refine Works.step ?_ .placeStatus
  refine Works.trans ?_ (State.ownEntry_works _)
  exact ((Works.of (.start setup)).step (.beaconDue _ nofun)).trans (State.setMonitor_works _ _)

/-! ## Receiver -/

theorem State.updatePeer_works (s : State) (id : Fin 24) (f : Peer → Peer) : Works sights s (s.updatePeer id f) :=
  .aside (s.updatePeer_only _ _) (by simp)

theorem State.hearPeer_works (s : State) (id : Fin 24) (sequence : Byte) : Works sights s (s.hearPeer id sequence) := by
  refine Works.trans ?_ (State.updatePeer_works _ _ _)
  unfold State.countGap
  exact .ite _ (fun _ => .refl) fun _ => (s.bumpBy_works _ _).trans (State.raise_works _ _)

theorem State.peerHalt_works (s : State) (id : Fin 24) (on : Bool) : Works sights s (s.peerHalt id on) := by
  unfold State.peerHalt
  refine Works.trans ?_ (State.settleMode_works _)
  refine Works.trans (s.updatePeer_works id fun p => { p with haltFlag := on }) (.ite _ (fun _ => ?_) fun _ => ?_)
  · exact .aside (State.addHalt_only _ _) (by simp)
  · exact .aside (State.removeHalt_only _ _) (by simp)

theorem State.offerInbox_works (s : State) (e : InboxEntry) : Works sights s (s.offerInbox e) := by
  unfold State.offerInbox
  refine .ite _ (fun takes => .ite _ (fun _ => s.bump_raise_works _ _) fun room => ?_) fun _ => .refl
  have operating : s.mode ≠ .setup := by
    rintro setup
    simp [State.operating, setup] at takes
  refine .of (.inbox _ (.inr ⟨?_, operating⟩))
  simp only [Config.maxInbox] at room
  simp only [List.length_append, List.length_singleton]
  omega

theorem State.route_works (s : State) (id : Fin 24) (b : Body) : Works sights s (s.route id b) := by
  unfold State.route
  split
  · exact s.peerHalt_works _ _
  · exact (s.updatePeer_works _ _).trans (State.peerHalt_works _ _ _)
  all_goals exact s.offerInbox_works _

theorem State.offerCopy_works (s : State) (f : WireFrame) (k : FrameKind) : Works sights s (s.offerCopy f k) := by
  unfold State.offerCopy
  refine .ite _ (fun _ => .ite _ (fun _ => s.bump_works _) fun room => ?_) fun _ => .refl
  refine .of (.copies _ (.inr ?_))
  simp only [Config.maxCopies] at room
  simp only [List.length_append, List.length_singleton]
  omega

theorem State.acceptedFrame_works (s : State) (own : Bool) (f : WireFrame) (b : Body) :
    Works sights s (s.acceptedFrame own f b) := by
  unfold State.acceptedFrame
  refine .ite _ (fun _ => s.offerCopy_works _ _) fun _ => .ite _ (fun _ => s.bump_raise_works _ _) fun _ => ?_
  split
  · exact ((s.hearPeer_works _ _).trans (State.route_works _ _ _)).trans (State.offerCopy_works _ _ _)
  · exact .refl

/-! ## The commands -/

/-- A command is a chain of moves when its effect out of reset is one. -/
theorem State.act_works {f : State → State} {s t : State} (h : Works sights s (f s)) (next : s.act f = .next t) :
    Works sights s t := by
  obtain ⟨-, rfl⟩ | ⟨-, rfl⟩ := s.act_next t f next
  · exact .refl
  · exact h

theorem State.shortenInbox_works (s : State) {e : InboxEntry} {rest : List InboxEntry} (inbox : s.inbox = e :: rest) :
    Works sights s { s with inbox := rest } := .of (.inbox rest (.inl (by simp [inbox])))

section
variable {s t : State}

theorem execExchangeComplete_works {status : Byte} {mags : Vector Byte 32} (next : execExchangeComplete status mags s = .next t) :
    Works sights s t := by
  refine State.act_works ?_ next
  split
  · exact .refl
  · refine .ite _ (fun _ => ?_) fun _ => .refl
    refine Works.trans ?_ (State.processWaiting_works _ _ _)
    refine (s.ownScan_works _ _ _ _).step (.scan _ ?_)
    rintro ⟨-, objects, continuations⟩
    exact ⟨Nat.zero_le _, objects, continuations⟩

theorem execSightTaken_works (next : execSightTaken s = .next t) : Works True s t := by
  refine State.act_works ?_ next
  split
  next operating inbox =>
    exact (s.shortenInbox_works inbox).trans (State.workSighting_works _ _ (by simpa [State.operating] using operating))
  · exact .refl

theorem execLocalSightingTaken_works (next : execLocalSightingTaken s = .next t) : Works True s t := by
  refine State.act_works ?_ next
  split
  next operating _ =>
    refine Works.trans (.of (.aside ?_)) (State.workSighting_works _ _ (by simpa [State.operating] using operating))
    intro p hp
    cases p <;> first | rfl | simp at hp
  · exact .refl

theorem execClaimTaken_works (next : execClaimTaken s = .next t) : Works sights s t := by
  refine State.act_works ?_ next
  split
  next inbox =>
    refine (s.shortenInbox_works inbox).trans (.ite _ (fun _ => ?_) fun _ => .refl)
    exact State.matched_works _ _ _ _ fun t listed => State.claimEffect_works _ t _ listed
  · exact .refl

theorem execFiredTaken_works (next : execFiredTaken s = .next t) : Works sights s t := by
  refine State.act_works ?_ next
  split
  next inbox =>
    refine (s.shortenInbox_works inbox).trans (.ite _ (fun _ => ?_) fun _ => .refl)
    exact State.matched_works _ _ _ _ fun t listed => State.firedEffect_works _ t listed
  · exact .refl

theorem execMissedTaken_works (next : execMissedTaken s = .next t) : Works sights s t := by
  refine State.act_works ?_ next
  split
  next inbox =>
    refine (s.shortenInbox_works inbox).trans (.ite _ (fun _ => ?_) fun _ => .refl)
    exact State.matched_works _ _ _ _ fun t listed => State.missedEffect_works _ t _ listed
  · exact .refl

theorem execLineIdle_works {startEdge : Bool} (next : execLineIdle s startEdge = .next t) : Works sights s t := by
  refine State.act_works ?_ next
  have idle (free : s.line.status.free) :
      Works sights s (if startEdge then s.latch else { s with line := { s.line with status := .idle } }.begin) :=
    .ite _ (fun _ => .of (.latch free)) fun _ =>
      Works.trans (.of (.lineIdle free)) (State.begin_works _)
  split
  iterate 2 exact .refl
  next waiting => exact idle (.inl waiting)
  next standing => exact idle (.inr standing)

theorem execStartEdgeLatch_works (next : execStartEdgeLatch s = .next t) : Works sights s t := by
  refine State.act_works ?_ next
  split
  iterate 3 exact .refl
  next idle => exact .of (.latch (.inr idle))

theorem execArbitrationLost_works {bit : Fin 8} (next : execArbitrationLost bit s = .next t) : Works sights s t := by
  refine State.act_works ?_ next
  split
  · exact .refl
  · exact .ite _ (fun _ => .of .loseAttempt) fun _ => .refl

theorem execBitError_works (next : execBitError s = .next t) : Works sights s t := by
  refine State.act_works ?_ next
  split
  · exact .refl
  next a sending => exact .of (.breakAttempt a sending)

theorem execAttemptComplete_works (next : execAttemptComplete s = .next t) : Works sights s t := by
  refine State.act_works ?_ next
  split
  · exact .refl
  next a sending => exact .of (.completeAttempt a sending)

theorem execBeaconDue_works (next : execBeaconDue s = .next t) : Works sights s t := by
  refine State.act_works ?_ next
  split
  · exact .refl
  next due =>
    refine .ite _ (fun _ => ?_) fun _ => .refl
    exact ((Works.of (.beaconDue _ fun _ => by simp [due])).step .placeStatus).trans (State.begin_works _)

theorem execFrameReceived_works {f : WireFrame} (next : execFrameReceived f s = .next t) : Works sights s t := by
  refine State.act_works ?_ next
  have ended (quiet : s.tx.attempt = none) : Works sights s s.endFrame := .of (.endFrame quiet)
  split
  next quiet =>
    split
    · exact (ended quiet).trans (State.bump_works _ _)
    · exact (ended quiet).trans (State.acceptedFrame_works _ _ _ _)
  next quiet => exact (ended quiet).trans (State.bump_works _ _)
  all_goals exact .refl

theorem execPeerLossDue_works {id : Fin 24} (next : execPeerLossDue id s = .next t) : Works sights s t := by
  refine State.act_works ?_ next
  split
  · exact .refl
  · exact .ite _ (fun _ => (s.updatePeer_works _ _).trans (State.bump_raise_works _ _ _)) fun _ => .refl

theorem execMonitorSample_works {levels : Byte} (next : execMonitorSample levels s = .next t) : Works sights s t := by
  refine State.act_works (.ite _ (fun _ => ?_) fun _ => .refl) next
  have sampled : Works sights s (s.sampleInputs levels).evaluateConditions :=
    (s.setMonitor_works _).trans (State.evaluateConditions_works _)
  exact .ite _ (fun _ => sampled.trans (State.evaluateWatch_works _)) fun _ => sampled

theorem execTOpenDue_works (next : execTOpenDue s = .next t) : Works sights s t :=
  State.act_works (Works.foldl State.request_works _ s) next

theorem execStall_works (next : execStall s = .next t) : Works sights s t := by
  refine State.act_works ?_ next
  split
  · exact .refl
  · exact .ite _ (fun _ => s.enterStall_works) fun _ => .refl

theorem execCoastingTOpen_works {track : Nat} (next : execCoastingTOpen track s = .next t) : Works sights s t := by
  refine State.act_works ?_ next
  split
  · exact .refl
  · split
    · exact .ite _ (fun _ => s.endTrack_works _ _) fun _ => .refl
    · exact .refl

/-- A valve still open after its close-at has been looked at has not changed. -/
theorem settleValve_of_isOpen {now : Time} {recovery : Nat} {v : Valve} (stays : (settleValve now recovery v).isOpen) :
    settleValve now recovery v = v := by
  cases v with
  | closed => rfl
  | resting => rfl
  | opened openedAt closeAt =>
    unfold settleValve at stays ⊢
    dsimp only at stays ⊢
    split at stays
    · cases stays
    next later => exact if_neg later

theorem restoreValve_of_isOpen {now : Time} {v : Valve} (stays : (restoreValve now v).isOpen) : restoreValve now v = v := by
  cases v with
  | closed => rfl
  | opened => rfl
  | resting due =>
    unfold restoreValve at stays
    dsimp only at stays
    split at stays <;> cases stays

theorem execCloseAtDue_works {i : Fin 32} (next : execCloseAtDue i s = .next t) : Works sights s t := by
  exact State.act_works (.of (.valve i _ settleValve_of_isOpen)) next

theorem execRecoverUntilDue_works {i : Fin 32} (next : execRecoverUntilDue i s = .next t) : Works sights s t := by
  exact State.act_works (.of (.valve i _ restoreValve_of_isOpen)) next

theorem execStart_works (next : execStart s = .next t) : Works sights s t := by
  refine State.act_works ?_ next
  refine .ite _ (fun _ => s.answer_works _ _) fun rests => ?_
  have setup : s.mode = .setup := by simpa [State.operating] using rests
  exact .ite _ (fun _ => (s.started_works setup).trans (State.answer_works _ _ _)) fun _ => s.answer_works _ _

theorem execHaltAssert_works (next : execHaltAssert s = .next t) : Works sights s t :=
  State.act_works ((s.setOperator_works _).trans (State.answer_works _ _ _)) next

theorem execHaltRelease_works (next : execHaltRelease s = .next t) : Works sights s t :=
  State.act_works ((s.setOperator_works _).trans (State.answer_works _ _ _)) next

theorem execClearHalt_works {id : Byte} (next : execClearHalt id s = .next t) : Works sights s t := by
  refine State.act_works ?_ next
  refine .ite _ (fun _ => s.answer_works _ _) fun _ => ?_
  have removed : Works sights s (s.removeHalt id.toNat) := .aside (s.removeHalt_only _) (by simp)
  exact (removed.trans (State.settleMode_works _)).trans (State.answer_works _ _ _)

theorem execReadLatest_works (next : execReadLatest s = .next t) : Works sights s t := by
  refine State.act_works (.of (.aside fun p hp => ?_)) next
  cases p <;> first | rfl | simp at hp

theorem execReadCopy_works (next : execReadCopy s = .next t) : Works sights s t := by
  refine State.act_works ?_ next
  split
  · exact s.answer_works _ _
  next rest copies =>
    exact (Works.of (.copies rest (.inl (by simp [copies])))).trans (State.answer_works _ _ _)

theorem execUnknownCommand_works {code : Byte} (next : execUnknownCommand code s = .next t) : Works sights s t := by
  refine State.act_works ?_ next
  exact .ite _ (fun _ => .refl) fun _ => s.answer_works _ _

end

end Sys2Proof.Machine

/-! PROOF. What a command, an edge and a step can do: the effects that are no chain of moves, and the induction over the advances of
an edge. -/

namespace Sys2Proof.Machine

/-! ## Between two advances -/

theorem State.through_works {sights : Prop} {s : State} {o : Host.Outcome State Fault Refusal}
    (works : ∀ t, o = .next t → Works sights s t) : Works sights s (s.through o) := by
  cases o with
  | next t => exact works t rfl
  | fault => exact .refl
  | refused => exact .refl

/-- The two events between advances that take a sighting. -/
def bringsSighting (e : Between) : Prop := e = .sightTaken ∨ e = .localSightingTaken

theorem State.meet_works (s : State) (e : Between) : Works (bringsSighting e) s (s.meet e) := by
  cases e with
  | portValue => exact s.formValue_works
  | exchangeComplete => exact State.through_works fun _ next => execExchangeComplete_works next
  | localSightingTaken =>
    exact State.through_works fun _ next => (execLocalSightingTaken_works next).mono fun _ => .inr rfl
  | lineIdle => exact State.through_works fun _ next => execLineIdle_works next
  | startEdgeLatch => exact State.through_works fun _ next => execStartEdgeLatch_works next
  | beaconDue => exact State.through_works fun _ next => execBeaconDue_works next
  | monitorSample => exact State.through_works fun _ next => execMonitorSample_works next
  | sightTaken => exact State.through_works fun _ next => (execSightTaken_works next).mono fun _ => .inl rfl
  | claimTaken => exact State.through_works fun _ next => execClaimTaken_works next
  | firedTaken => exact State.through_works fun _ next => execFiredTaken_works next
  | missedTaken => exact State.through_works fun _ next => execMissedTaken_works next
  | tOpenDue => exact State.through_works fun _ next => execTOpenDue_works next
  | start => exact State.through_works fun _ next => execStart_works next
  | haltAssert => exact State.through_works fun _ next => execHaltAssert_works next
  | haltRelease => exact State.through_works fun _ next => execHaltRelease_works next

theorem State.meets_works (gap : List Between) : ∀ s : State,
    Works (∃ e ∈ gap, bringsSighting e) s (gap.foldl State.meet s) := by
  induction gap with
  | nil => exact fun s => .refl
  | cons e rest ih =>
    intro s
    exact Works.trans ((s.meet_works e).mono fun brings => ⟨e, List.mem_cons_self, brings⟩)
      ((ih (s.meet e)).mono fun ⟨d, later, brings⟩ => ⟨d, List.mem_cons_of_mem e later, brings⟩)

/-! ## The advances of an edge -/

/-- What moves keep, and the belt counter's part of an advance, the advances of an edge keep with all that falls between them. -/
theorem State.advances_keeps {P : State → Prop} (stamp : Time) (works : ∀ s t, Works True s t → P s → P t)
    (counts : ∀ s : State, P s → P { s with belt := s.belt.advance stamp }) (n : Nat) :
    ∀ (s : State) (between : List (List Between)), P s → P (s.advances stamp n between) := by
  have advance (s : State) (sound : P s) : P (s.advance stamp) := works _ _ (s.advance_works stamp) (counts s sound)
  induction n with
  | zero => exact fun s between sound => sound
  | succ n ih =>
    intro s between sound
    match between with
    | [] => exact ih _ _ (advance s sound)
    | gap :: rest =>
      refine ih _ rest ?_
      split
      · exact advance s sound
      · exact works _ _ ((State.meets_works gap _).mono fun _ => trivial) (advance s sound)

/-- The accumulator after a counted forward edge (R3). -/
def State.gained (s : State) : State :=
  { s with belt := { s.belt with accumulator := (s.belt.accumulator + 1000) % s.record.pitch } }

theorem State.forwardEdge_eq (s : State) (between : List (List Between)) :
    s.forwardEdge between = s.gained.advances s.belt.timebase s.edgeUnits between := rfl

/-! ## What a command can do -/

/-- The effect of a command: a chain of moves, or one of the effects that are none. -/
inductive Effect (c : Instr) (s : State) : State → Prop where
  | works {t : State} (h : Works (c = .sightTaken ∨ c = .localSightingTaken) s t) : Effect c s t
  | edge (rising : Bool) (between : List (List Between)) (is : c = .encoderEdge rising true between) :
      Effect c s (s.forwardEdge between)
  | write (offset count : Byte) (data : List Byte) (is : c = .writeConfig offset count data) (setup : s.mode = .setup)
      (rest : List Byte) : Effect c s ((s.writeRecord offset.toNat (data.take count.toNat)).answer .ok rest)
  | restart (is : c = .restart) (operating : s.operating) : Effect c s (s.warmRestart.answer .ok [])
  | clearFlags (mask : BitVec 16) (is : c = .clearFlags mask) :
      Effect c s (({ s with flags := s.flags &&& ~~~(mask.setWidth 14) } : State).answer .ok [])
  | clearTallies (is : c = .clearTallies) : Effect c s (({ s with tallies := Vector.replicate 43 0 } : State).answer .ok [])
  | cold (is : isReset c) (straps : BitVec 5) (held : Bool) :
      Effect c s { State.cold straps s.freeCount s.pending with inReset := held }

/-- The commands whose effect is always a chain of moves. -/
theorem exec_works {c : Instr} {s t : State} (next : exec c s = .next t)
    (other : match c with
      | .encoderEdge _ _ _ | .writeConfig _ _ _ | .restart | .clearFlags _ | .clearTallies | .resetAssert | .coldStart _ => False
      | _ => True) : Works (c = .sightTaken ∨ c = .localSightingTaken) s t := by
  cases c with
  | encoderEdge | writeConfig | restart | clearFlags | clearTallies | resetAssert | coldStart => exact other.elim
  | stall => exact execStall_works next
  | exchangeComplete => exact execExchangeComplete_works next
  | localSightingTaken => exact (execLocalSightingTaken_works next).mono fun _ => .inr rfl
  | lineIdle => exact execLineIdle_works next
  | startEdgeLatch => exact execStartEdgeLatch_works next
  | arbitrationLost => exact execArbitrationLost_works next
  | bitError => exact execBitError_works next
  | attemptComplete => exact execAttemptComplete_works next
  | beaconDue => exact execBeaconDue_works next
  | frameReceived => exact execFrameReceived_works next
  | peerLossDue => exact execPeerLossDue_works next
  | monitorSample => exact execMonitorSample_works next
  | sightTaken => exact (execSightTaken_works next).mono fun _ => .inl rfl
  | claimTaken => exact execClaimTaken_works next
  | firedTaken => exact execFiredTaken_works next
  | missedTaken => exact execMissedTaken_works next
  | tOpenDue => exact execTOpenDue_works next
  | coastingTOpen => exact execCoastingTOpen_works next
  | tCloseDue track => exact State.act_works (by exact s.settleTrack_works _) (show execTCloseDue track s = _ from next)
  | closeAtDue => exact execCloseAtDue_works next
  | recoverUntilDue => exact execRecoverUntilDue_works next
  | readIdent => exact State.act_works (by exact s.answer_works _ _) (show execReadIdent s = _ from next)
  | readConfig => exact State.act_works (by exact s.answer_works _ _) (show execReadConfig s = _ from next)
  | start => exact execStart_works next
  | readState waits => exact State.act_works (by exact s.reply_works _ _) (show execReadState s waits = _ from next)
  | readFlags waits => exact State.act_works (by exact s.reply_works _ _) (show execReadFlags s waits = _ from next)
  | readTallies waits => exact State.act_works (by exact s.reply_works _ _) (show execReadTallies s waits = _ from next)
  | haltAssert => exact execHaltAssert_works next
  | haltRelease => exact execHaltRelease_works next
  | clearHalt => exact execClearHalt_works next
  | readPeers waits => exact State.act_works (by exact s.reply_works _ _) (show execReadPeers s waits = _ from next)
  | readTrace => exact State.act_works (by exact s.answer_works _ _) (show execReadTrace s = _ from next)
  | readLatest => exact execReadLatest_works next
  | readCopy => exact execReadCopy_works next
  | unknownCommand => exact execUnknownCommand_works next
  | transactionAbandon => exact State.act_works s.dropResponse_works (show execTransactionAbandon s = _ from next)

/-- Every command has one of these effects. -/
theorem exec_effect {c : Instr} {s t : State} (next : exec c s = .next t) : Effect c s t := by
  cases c with
  | encoderEdge rising forward between =>
    change execEncoderEdge rising forward s between = _ at next
    obtain ⟨-, rfl⟩ | ⟨-, rfl⟩ := s.act_next t _ next
    · exact .works .refl
    · split
      · cases forward with
        | true => exact .edge rising between rfl
        | false => exact .works s.reverseEdge_works
      · exact .works .refl
  | writeConfig offset count data =>
    change execWriteConfig offset count data s = _ at next
    obtain ⟨-, rfl⟩ | ⟨-, rfl⟩ := s.act_next t _ next
    · exact .works .refl
    · split
      · exact .works s.dropResponse_works
      · split
        · exact .works (s.answer_works _ _)
        next rests => exact .write offset count data rfl (by simpa [State.operating] using rests) _
  | restart =>
    change execRestart s = _ at next
    obtain ⟨-, rfl⟩ | ⟨-, rfl⟩ := s.act_next t _ next
    · exact .works .refl
    · split
      next operating => exact .restart rfl operating
      · exact .works (s.answer_works _ _)
  | clearFlags mask =>
    change execClearFlags mask s = _ at next
    obtain ⟨-, rfl⟩ | ⟨-, rfl⟩ := s.act_next t _ next
    · exact .works .refl
    · exact .clearFlags mask rfl
  | clearTallies =>
    change execClearTallies s = _ at next
    obtain ⟨-, rfl⟩ | ⟨-, rfl⟩ := s.act_next t _ next
    · exact .works .refl
    · exact .clearTallies rfl
  | resetAssert =>
    cases next
    exact .cold rfl s.strapId true
  | coldStart straps =>
    cases next
    exact .cold rfl straps false
  | _ => exact .works (exec_works next trivial)

/-! ## What a step can do -/

/-- The parts that a step without a command may change, beside the timebase. -/
abbrev idleParts : List Part := [.response, .outgoing, .freeCount, .pending]

/-- Without a command a microsecond passes, or the queue, the port's response and the free counter alone change (log 1). -/
theorem State.idle_effect (s : State) : s.idle = s.tick ∨ s.changesOnly s.idle idleParts := by
  have formed : ∀ n, s.changesOnly ({ s with freeCount := n }.formValue) idleParts := fun n =>
    State.changesOnly.then (ps := [.freeCount]) (by intro p hp; cases p <;> first | rfl | simp at hp)
      (State.formValue_only _) (by simp) (by simp)
  have turned : s.turn = s.tick ∨ s.changesOnly s.turn idleParts := by
    unfold State.turn
    split
    · right; intro p hp; cases p <;> first | rfl | simp at hp
    · split
      · right; intro p hp; cases p <;> first | rfl | simp at hp
      · split
        · exact .inr (.refl _ _)
        · exact .inl rfl
  unfold State.idle
  split
  · exact .inr (.refl _ _)
  · split
    · split
      · exact .inr (s.formValue_only.mono (by simp))
      next due =>
        right
        dsimp only
        split
        · exact formed _
        · unfold State.turn
          split
          · intro p hp; cases p <;> first | rfl | simp at hp
          · split
            · intro p hp; cases p <;> first | rfl | simp at hp
            next none waiting => exact absurd ⟨not_not.mp none, not_not.mp waiting⟩ due
    · exact turned

/-- What the passing of time, the queue and every effect of a command keep, every step keeps. -/
theorem step_keeps {P : State → Prop} (idles : ∀ s t : State, s.changesOnly t idleParts → P s → P t)
    (ticks : ∀ s : State, P s → P s.tick) (effects : ∀ c s t, Effect c s t → P s → P t) {s t : State} (sound : P s)
    (next : step s = .next t) : P t := by
  match queue : s.pending with
  | [] =>
    rw [step_idle s queue] at next
    cases next
    obtain tick | only := s.idle_effect
    · rw [tick]
      exact ticks s sound
    · exact idles _ _ only sound
  | c :: rest =>
    rw [step_front s c rest queue] at next
    refine effects _ _ _ (exec_effect next) (idles s _ ?_ sound)
    intro p hp
    cases p <;> first | rfl | simp at hp

end Sys2Proof.Machine

/-! PROOF. Flags and tallies through every command (R176, R178), and the capacities of queues, lists and rings through every step. -/

namespace Sys2Proof.Machine

/-! ## Flags set and tallies advanced -/

/-- Every flag set stays set, and no tally falls. -/
def State.growsTo (s t : State) : Prop :=
  (∀ f : Flag, s.flagSet f → t.flagSet f) ∧ ∀ x : Tally, (s.tally x).toNat ≤ (t.tally x).toNat

theorem State.growsTo_of_same {s t : State} (flags : t.flags = s.flags) (tallies : t.tallies = s.tallies) : s.growsTo t :=
  ⟨fun f set => by simpa [State.flagSet, flags] using set, fun x => by simp [State.tally, tallies]⟩

theorem State.growsTo.refl (s : State) : s.growsTo s := State.growsTo_of_same rfl rfl

theorem State.growsTo.trans {s t u : State} (h : s.growsTo t) (k : t.growsTo u) : s.growsTo u :=
  ⟨fun f set => k.1 f (h.1 f set), fun x => (h.2 x).trans (k.2 x)⟩

theorem State.bumpBy_grows (s : State) (x : Tally) (n : Nat) : s.growsTo (s.bumpBy x n) := by
  refine ⟨fun f set => set, fun y => ?_⟩
  by_cases is : y = x
  · subst is
    have := (s.tally y).isLt
    rw [s.bumpBy_tally, addTally_toNat]
    omega
  · rw [s.bumpBy_counts_other x y n is]

theorem State.raise_grows (s : State) (f : Flag) : s.growsTo (s.raise f) :=
  ⟨fun g set => by rw [s.raise_sets, set, Bool.or_true], fun _ => Nat.le_refl _⟩

theorem State.ite_grows {s t u : State} (c : Prop) [Decidable c] (h : s.growsTo t) (k : s.growsTo u) :
    s.growsTo (if c then t else u) := by
  split
  · exact h
  · exact k

theorem State.enqueueUrgent_grows (s : State) (u : Urgent) : s.growsTo (s.enqueueUrgent u) :=
  ite_grows _ (.refl s) (ite_grows _ (s.bumpBy_grows _ 1) (ite_grows _ (s.bumpBy_grows _ 1) (growsTo_of_same rfl rfl)))

theorem State.enqueueSighting_grows (s : State) (x : Sighting) : s.growsTo (s.enqueueSighting x) :=
  ite_grows _ (.refl s) (ite_grows _ (s.bumpBy_grows _ 1) (ite_grows _ (s.bumpBy_grows _ 1) (growsTo_of_same rfl rfl)))

theorem State.placeStatus_grows (s : State) : s.growsTo s.placeStatus :=
  ite_grows _ (.refl s) (ite_grows _ (s.bumpBy_grows _ 1) (growsTo_of_same rfl rfl))

theorem State.dropStale_grows (s : State) : s.growsTo s.dropStale :=
  (growsTo_of_same rfl rfl : s.growsTo { s with tx := _ }).trans (State.bumpBy_grows _ _ _)

theorem State.begin_grows (s : State) : s.growsTo s.begin := by
  have lesser (x : State) : x.growsTo x.sendLesser :=
    growsTo_of_same (x.sendLesser_only .flags (by simp)) (x.sendLesser_only .tallies (by simp))
  have latched : s.growsTo s.latch := growsTo_of_same rfl rfl
  refine ite_grows _ (latched.trans ?_) (.refl s)
  unfold State.sendHead
  split
  · exact growsTo_of_same rfl rfl
  · exact s.latch.dropStale_grows.trans (lesser _)

theorem State.chargeEntry_grows (s : State) (a : Attempt) : s.growsTo (s.chargeEntry a) := by
  unfold State.chargeEntry
  split
  · exact .refl s
  · exact .refl s
  · refine ite_grows _ ?_ (growsTo_of_same rfl rfl)
    exact (growsTo_of_same rfl rfl : s.growsTo { s with tx := _ }).trans (State.bumpBy_grows _ _ 1)

theorem State.countError_grows (s : State) : s.growsTo s.countError := by
  have muted (x : State) : x.growsTo x.enterMute :=
    (growsTo_of_same rfl rfl : x.growsTo { x with tx := _ }).trans ((State.bumpBy_grows _ _ _).trans (State.raise_grows _ _))
  have counted (tx : Transmitter) : s.growsTo { s with tx := tx } := growsTo_of_same rfl rfl
  exact ite_grows _ ((counted _).trans (muted _)) (counted _)

theorem Move.grows {sights : Prop} {s t : State} (move : Move sights s t) : s.growsTo t := by
  cases move with
  | aside only => exact State.growsTo_of_same (only .flags (by simp)) (only .tallies (by simp))
  | count x n => exact s.bumpBy_grows x n
  | raise f => exact s.raise_grows f
  | enqueueUrgent u => exact s.enqueueUrgent_grows u
  | enqueueSighting x => exact s.enqueueSighting_grows x
  | placeStatus => exact s.placeStatus_grows
  | begin => exact s.begin_grows
  | breakAttempt a =>
    have broken : s.growsTo s.breakFrame := State.growsTo_of_same rfl rfl
    exact (broken.trans (State.chargeEntry_grows _ a)).trans (State.countError_grows _)
  | grant t f =>
    have only := s.granted_only t f.tClose fun u => { u with state := .firing, valveSet := some (s.grantedSet t) }
    exact State.growsTo_of_same (only .flags (by simp)) (only .tallies (by simp))
  | hold n =>
    have only := s.held_only n
    exact State.growsTo_of_same (only .flags (by simp)) (only .tallies (by simp))
  | _ => exact State.growsTo_of_same rfl rfl

theorem Works.grows {sights : Prop} {s t : State} (works : Works sights s t) : s.growsTo t :=
  works.relates State.growsTo.refl (fun _ _ _ => State.growsTo.trans) fun _ _ => Move.grows

theorem State.forwardEdge_grows (s : State) (between : List (List Between)) : s.growsTo (s.forwardEdge between) := by
  rw [s.forwardEdge_eq]
  exact State.advances_keeps (P := s.growsTo) _ (fun _ _ works grown => grown.trans works.grows)
    (fun x grown => grown.trans (State.growsTo_of_same rfl rfl)) _ _ _ (State.growsTo_of_same rfl rfl)

theorem State.writeRecord_works (s : State) (offset : Nat) (data : List Byte) :
    Works False { s with record := s.record.write offset data
                         belt := s.belt.repitch s.record (s.record.write offset data) } (s.writeRecord offset data) :=
  .ite _ (fun _ => State.evaluateConditions_works _) fun _ => .refl

theorem State.writeRecord_grows (s : State) (offset : Nat) (data : List Byte) : s.growsTo (s.writeRecord offset data) :=
  (State.growsTo_of_same rfl rfl : s.growsTo _).trans (s.writeRecord_works offset data).grows

theorem State.warmRestart_grows (s : State) : s.growsTo s.warmRestart := by
  have closed : s.growsTo s.closeAllValves := State.growsTo_of_same (by simp) (by simp)
  refine (closed.trans (State.bumpBy_grows _ .discarded s.tracks.length)).trans ?_
  unfold State.warmRestart
  generalize s.closeAllValves.bumpBy .discarded s.tracks.length = x
  exact State.growsTo_of_same rfl rfl

/-- Settles O5: every move advances tallies and sets flags or leaves them, and so does every effect but the two clears. -/
theorem flagsStaySetAndTalliesNeverFall : Obligations.FlagsStaySetAndTalliesNeverFall := by
  intro c s t next running
  have answered (x : State) (status : PortStatus) (rest : List Byte) : x.growsTo (x.answer status rest) :=
    State.growsTo_of_same rfl rfl
  cases exec_effect next with
  | works h => exact ⟨fun _ => h.grows.1, fun _ => h.grows.2⟩
  | edge _ between => exact ⟨fun _ => (s.forwardEdge_grows between).1, fun _ => (s.forwardEdge_grows between).2⟩
  | write offset count data _ _ rest =>
    have grown := (s.writeRecord_grows offset.toNat (data.take count.toNat)).trans (answered _ .ok rest)
    exact ⟨fun _ => grown.1, fun _ => grown.2⟩
  | restart =>
    have grown := s.warmRestart_grows.trans (answered _ .ok [])
    exact ⟨fun _ => grown.1, fun _ => grown.2⟩
  | clearFlags mask is => exact ⟨fun other => absurd is (other mask), fun _ _ => Nat.le_refl _⟩
  | clearTallies is => exact ⟨fun _ _ set => set, fun other => absurd is other⟩
  | cold is => exact absurd is (by simp [running])

end Sys2Proof.Machine

/-! PROOF. The link transmitter (R51 to R57): what each of its moves leaves of queues, slot and attempt, its capacities, and the
agreement of entry, error counts and MUTE through every step. -/

namespace Sys2Proof.Machine

/-! ## What the moves leave of transmitter and line -/

/-- Queues and slot as offers and the beginning of an attempt leave them. -/
theorem State.enqueueUrgent_tx (s : State) (u : Urgent) :
    (s.enqueueUrgent u).tx = s.tx
      ∨ (s.tx.mute = false ∧ s.tx.urgent.length < 8
          ∧ (s.enqueueUrgent u).tx = { s.tx with urgent := s.tx.urgent ++ [{ content := u, errors := 0 }] }) := by
  unfold State.enqueueUrgent
  split
  · exact .inl rfl
  · split
    · exact .inl rfl
    next loud =>
      split
      · exact .inl rfl
      next room => exact .inr ⟨by simpa using loud, Nat.lt_of_not_le room, rfl⟩

theorem State.enqueueSighting_tx (s : State) (x : Sighting) :
    (s.enqueueSighting x).tx = s.tx
      ∨ (s.tx.mute = false ∧ s.tx.sightings.length < 16
          ∧ (s.enqueueSighting x).tx = { s.tx with sightings := s.tx.sightings ++ [{ sighting := x, errors := 0 }] }) := by
  unfold State.enqueueSighting
  split
  · exact .inl rfl
  · split
    · exact .inl rfl
    next loud =>
      split
      · exact .inl rfl
      next room => exact .inr ⟨by simpa using loud, Nat.lt_of_not_le room, rfl⟩

theorem State.placeStatus_tx (s : State) :
    s.placeStatus.tx = s.tx
      ∨ (s.tx.mute = false
          ∧ s.placeStatus.tx = { s.tx with beacon := some 0, attempt := s.tx.attempt.map Attempt.replace }) := by
  unfold State.placeStatus
  split
  · exact .inl rfl
  · split
    · exact .inl rfl
    next loud => exact .inr ⟨by simpa using loud, rfl⟩

/-- What a begun attempt may be: the one that stood before, or one whose entry stands at its place. -/
theorem State.sendLesser_tx (s : State) :
    ∃ a, s.sendLesser.tx = { s.tx with attempt := a } ∧ (a = s.tx.attempt ∨ ∃ b, a = some b ∧ s.tx.entryStands b) := by
  unfold State.sendLesser
  split
  next e rest sightings => exact ⟨_, rfl, .inr ⟨_, rfl, by simp [Transmitter.entryStands, sightings]⟩⟩
  · split
    next placed => exact ⟨_, rfl, .inr ⟨_, rfl, by simpa [Transmitter.entryStands] using placed⟩⟩
    · exact ⟨_, rfl, .inl rfl⟩

theorem State.sendHead_tx (s : State) :
    ∃ a sightings, sightings <:+ s.tx.sightings ∧ s.sendHead.tx = { s.tx with sightings := sightings, attempt := a }
      ∧ (a = s.tx.attempt ∨ ∃ b, a = some b ∧ ({ s.tx with sightings := sightings } : Transmitter).entryStands b) := by
  unfold State.sendHead
  split
  next e rest urgent => exact ⟨_, _, List.suffix_refl _, rfl, .inr ⟨_, rfl, by simp [Transmitter.entryStands, urgent]⟩⟩
  · obtain ⟨a, sent, attempt⟩ := s.dropStale.sendLesser_tx
    exact ⟨a, _, List.dropWhile_suffix _, sent, attempt⟩

/-- An attempt begins on an idle line alone, and then a frame is being received (R45, R48, R53). -/
theorem State.begin_tx (s : State) :
    s.begin = s
      ∨ (s.mayBegin ∧ s.begin.line = s.latch.line
          ∧ ∃ a sightings, sightings <:+ s.tx.sightings ∧ s.begin.tx = { s.tx with sightings := sightings, attempt := a }
            ∧ (a = s.tx.attempt ∨ ∃ b, a = some b ∧ ({ s.tx with sightings := sightings } : Transmitter).entryStands b)) := by
  unfold State.begin
  split
  next may => exact .inr ⟨may, s.latch.sendHead_only .line (by simp), s.latch.sendHead_tx⟩
  · exact .inl rfl

theorem State.mayBegin_iff (s : State) :
    s.mayBegin ↔ s.line.status = .idle ∧ s.mode ≠ .setup ∧ s.tx.mute = false ∧ s.hasFrame := by
  simp [State.mayBegin, State.operating, and_assoc]

/-- The entry of an errored attempt, charged: its queue has one entry less, or its head another error count, at most 2 (R56). -/
theorem State.chargeEntry_tx (s : State) (a : Attempt) :
    ∃ urgent sightings beacon,
      (s.chargeEntry a).tx = { s.tx with urgent := urgent, sightings := sightings, beacon := beacon }
        ∧ urgent.length ≤ s.tx.urgent.length ∧ sightings.length ≤ s.tx.sightings.length
        ∧ ((∀ e ∈ s.tx.urgent, e.errors ≤ 2) → ∀ e ∈ urgent, e.errors ≤ 2)
        ∧ ((∀ e ∈ s.tx.sightings, e.errors ≤ 2) → ∀ e ∈ sightings, e.errors ≤ 2)
        ∧ ((∀ n, s.tx.beacon = some n → n ≤ 2) → ∀ n, beacon = some n → n ≤ 2) := by
  unfold State.chargeEntry
  cases fate : a.fate with
  | replaced => exact ⟨_, _, _, rfl, Nat.le_refl _, Nat.le_refl _, id, id, id⟩
  | gone => exact ⟨_, _, _, rfl, Nat.le_refl _, Nat.le_refl _, id, id, id⟩
  | present =>
    dsimp only
    split
    · simp only [Transmitter.dropEntry, fate, State.bump_keeps]
      cases a.source with
      | urgent => exact ⟨_, _, _, rfl, by simp, Nat.le_refl _, fun h e he => h e (List.mem_of_mem_drop he), id, id⟩
      | sighting => exact ⟨_, _, _, rfl, Nat.le_refl _, by simp, id, fun h e he => h e (List.mem_of_mem_drop he), id⟩
      | beacon => exact ⟨_, _, _, rfl, Nat.le_refl _, Nat.le_refl _, id, id, fun _ n none => by cases none⟩
    next few =>
      have within : s.tx.entryErrors a + 1 ≤ 2 := by simp only [Config.dropErrors] at few; omega
      generalize s.tx.entryErrors a + 1 = n at within
      unfold Transmitter.setErrors
      cases a.source with
      | urgent =>
        refine ⟨_, _, _, rfl, by simp, Nat.le_refl _, fun h e he => ?_, id, id⟩
        cases queue : s.tx.urgent with
        | nil => simp [queue] at he
        | cons x rest =>
          simp only [queue, List.modifyHead_cons, List.mem_cons] at he h
          rcases he with rfl | he
          · exact within
          · exact h e (.inr he)
      | sighting =>
        refine ⟨_, _, _, rfl, Nat.le_refl _, by simp, id, fun h e he => ?_, id⟩
        cases queue : s.tx.sightings with
        | nil => simp [queue] at he
        | cons x rest =>
          simp only [queue, List.modifyHead_cons, List.mem_cons] at he h
          rcases he with rfl | he
          · exact within
          · exact h e (.inr he)
      | beacon =>
        refine ⟨_, _, _, rfl, Nat.le_refl _, Nat.le_refl _, id, id, fun _ m slot => ?_⟩
        obtain ⟨_, -, rfl⟩ := Option.map_eq_some_iff.mp slot
        exact within

/-- The consecutive error count rises by one, and 16 brings MUTE and empties queues and slot (R56, R57). -/
theorem State.countError_tx (s : State) :
    (s.tx.consecutive + 1 < 16 ∧ s.countError = { s with tx := { s.tx with consecutive := s.tx.consecutive + 1 } })
      ∨ (16 ≤ s.tx.consecutive + 1
          ∧ s.countError = State.enterMute { s with tx := { s.tx with consecutive := 16 } }) := by
  have counted (n : Nat) (least : min 16 (s.tx.consecutive + 1) = n) :
      s.countError = if n = 16 then State.enterMute { s with tx := { s.tx with consecutive := n } }
        else { s with tx := { s.tx with consecutive := n } } := by
    subst least
    rfl
  by_cases below : s.tx.consecutive + 1 < 16
  · exact .inl ⟨below, (counted _ (Nat.min_eq_right (Nat.le_of_lt below))).trans (if_neg (Nat.ne_of_lt below))⟩
  · exact .inr ⟨Nat.le_of_not_lt below, (counted 16 (Nat.min_eq_left (Nat.le_of_not_lt below))).trans (if_pos rfl)⟩

theorem State.enterMute_tx (s : State) :
    s.enterMute.tx = { s.tx with urgent := [], sightings := [], beacon := none, mute := true } := rfl

/-- An entry that leaves at a completed attempt leaves the others as they stand (R54). -/
theorem Transmitter.dropEntry_eq (x : Transmitter) (a : Attempt) : ∃ urgent sightings beacon,
    x.dropEntry a = { x with urgent := urgent, sightings := sightings, beacon := beacon }
      ∧ urgent <:+ x.urgent ∧ sightings <:+ x.sightings ∧ (beacon = x.beacon ∨ beacon = none) := by
  unfold Transmitter.dropEntry
  split
  · exact ⟨_, _, _, rfl, List.suffix_refl _, List.suffix_refl _, .inl rfl⟩
  all_goals
    split
    · exact ⟨_, _, _, rfl, List.drop_suffix 1 _, List.suffix_refl _, .inl rfl⟩
    · exact ⟨_, _, _, rfl, List.suffix_refl _, List.drop_suffix 1 _, .inl rfl⟩
    · exact ⟨_, _, _, rfl, List.suffix_refl _, List.suffix_refl _, .inr rfl⟩

/-! ## Capacities -/

/-- The transmitter within its capacities (R39, R51, R57). -/
def Transmitter.fits (x : Transmitter) : Prop := x.urgent.length ≤ 8 ∧ x.sightings.length ≤ 16 ∧ x.consecutive ≤ 16

theorem State.withinCapacity_iff (s : State) :
    s.withinCapacity ↔ s.belt.ring.length ≤ 16 ∧ s.scan.fits ∧ s.tx.fits ∧ s.inbox.length ≤ 16 ∧ s.copies.length ≤ 8
      ∧ s.tracks.length ≤ 64 ∧ s.trace.length ≤ 32 := by
  simp only [State.withinCapacity, ScanUnit.fits, Transmitter.fits, and_assoc]

/-- The capacities are those of seven parts. -/
theorem State.withinCapacity_of_same {s t : State} {ps : List Part} (only : s.changesOnly t ps)
    (apart : ∀ p ∈ [Part.belt, .scan, .tx, .inbox, .copies, .tracks, .trace], p ∉ ps) (within : s.withinCapacity) :
    t.withinCapacity := by
  have same (p : Part) (listed : p ∈ [Part.belt, .scan, .tx, .inbox, .copies, .tracks, .trace]) : p.same s t :=
    only p (apart p listed)
  rw [State.withinCapacity_iff] at within ⊢
  rw [same .belt (by simp), same .scan (by simp), same .tx (by simp), same .inbox (by simp), same .copies (by simp),
    same .tracks (by simp), same .trace (by simp)]
  exact within

/-- Capacities at a move of the transmitter. -/
theorem State.withinCapacity_of_tx {s t : State} {ps : List Part} (only : s.changesOnly t ps)
    (apart : ∀ p ∈ [Part.belt, .scan, .inbox, .copies, .tracks, .trace], p ∉ ps) (fits : s.tx.fits → t.tx.fits)
    (within : s.withinCapacity) : t.withinCapacity := by
  have same (p : Part) (listed : p ∈ [Part.belt, .scan, .inbox, .copies, .tracks, .trace]) : p.same s t :=
    only p (apart p listed)
  rw [State.withinCapacity_iff] at within ⊢
  obtain ⟨ring, scan, tx, others⟩ := within
  rw [same .belt (by simp), same .scan (by simp), same .inbox (by simp), same .copies (by simp),
    same .tracks (by simp), same .trace (by simp)]
  exact ⟨ring, scan, fits tx, others⟩

theorem State.withinCapacity_of_tracks (s : State) (ts : List Track) (fewer : ts.length ≤ s.tracks.length)
    (within : s.withinCapacity) : State.withinCapacity { s with tracks := ts } := by
  rw [State.withinCapacity_iff] at within ⊢
  obtain ⟨ring, scan, tx, inbox, copies, tracks, trace⟩ := within
  exact ⟨ring, scan, tx, inbox, copies, fewer.trans tracks, trace⟩

theorem State.enqueueUrgent_fits (s : State) (u : Urgent) (fits : s.tx.fits) : (s.enqueueUrgent u).tx.fits := by
  obtain same | ⟨-, room, queued⟩ := s.enqueueUrgent_tx u
  · rwa [same]
  · obtain ⟨-, others⟩ := fits
    rw [queued]
    exact ⟨by simpa using room, others⟩

theorem State.enqueueSighting_fits (s : State) (x : Sighting) (fits : s.tx.fits) : (s.enqueueSighting x).tx.fits := by
  obtain same | ⟨-, room, queued⟩ := s.enqueueSighting_tx x
  · rwa [same]
  · obtain ⟨urgent, -, consecutive⟩ := fits
    rw [queued]
    exact ⟨urgent, by simpa using room, consecutive⟩

theorem State.placeStatus_fits (s : State) (fits : s.tx.fits) : s.placeStatus.tx.fits := by
  obtain same | ⟨-, placed⟩ := s.placeStatus_tx
  · rwa [same]
  · rw [placed]
    exact fits

theorem State.begin_fits (s : State) (fits : s.tx.fits) : s.begin.tx.fits := by
  obtain same | ⟨-, -, a, sightings, suffix, begun, -⟩ := s.begin_tx
  · rwa [same]
  · obtain ⟨urgent, queue, consecutive⟩ := fits
    rw [begun]
    exact ⟨urgent, suffix.length_le.trans queue, consecutive⟩

theorem State.breakAttempt_fits (s : State) (a : Attempt) (fits : s.tx.fits) :
    ((s.breakFrame.chargeEntry a).countError).tx.fits := by
  obtain ⟨urgent, sightings, -⟩ := fits
  obtain ⟨us, ss, b, charged, lessUrgent, lessSightings, -⟩ := s.breakFrame.chargeEntry_tx a
  obtain ⟨below, counted⟩ | ⟨-, counted⟩ := (s.breakFrame.chargeEntry a).countError_tx
  · rw [counted]
    rw [charged] at below ⊢
    exact ⟨lessUrgent.trans urgent, lessSightings.trans sightings, Nat.le_of_lt below⟩
  · rw [counted, State.enterMute_tx]
    exact ⟨Nat.zero_le _, Nat.zero_le _, Nat.le_refl _⟩

theorem State.breakAttempt_only (s : State) (a : Attempt) :
    s.changesOnly (s.breakFrame.chargeEntry a).countError [.tx, .line, .tallies, .flags] := by
  refine State.changesOnly.then (ps := [.tx, .line, .tallies]) ?_ (State.countError_only _) (by simp) (by simp)
  exact s.breakFrame_only.then (State.chargeEntry_only _ a) (by simp) (by simp)

theorem Move.keeps_capacity {sights : Prop} {s t : State} (move : Move sights s t) (within : s.withinCapacity) :
    t.withinCapacity := by
  cases move with
  | aside only => exact State.withinCapacity_of_same only (by simp) within
  | raise | count | latch | lineIdle | beaconDue | loseAttempt | endFrame | phase | valve | release => exact within
  | grant t f =>
    have only := s.granted_only t f.tClose fun u => { u with state := .firing, valveSet := some (s.grantedSet t) }
    have tracks : (((s.serveValves t f.tClose).updateTrack t.made fun u =>
        { u with state := .firing, valveSet := some (s.grantedSet t) }).tracks).length = s.tracks.length := by
      rw [State.updateTrack_tracks, List.length_map, s.serveValves_only t f.tClose .tracks (by simp)]
    rw [State.withinCapacity_iff] at within ⊢
    rw [tracks, only .belt (by simp), only .scan (by simp), only .tx (by simp), only .inbox (by simp), only .copies (by simp),
      only .trace (by simp)]
    exact within
  | hold n => exact State.withinCapacity_of_same (s.held_only n) (by simp) within
  | enqueueUrgent u => exact State.withinCapacity_of_tx (s.enqueueUrgent_only u) (by simp) (s.enqueueUrgent_fits u) within
  | enqueueSighting x => exact State.withinCapacity_of_tx (s.enqueueSighting_only x) (by simp) (s.enqueueSighting_fits x) within
  | placeStatus => exact State.withinCapacity_of_tx s.placeStatus_only (by simp) s.placeStatus_fits within
  | begin => exact State.withinCapacity_of_tx s.begin_only (by simp) s.begin_fits within
  | breakAttempt a => exact State.withinCapacity_of_tx (s.breakAttempt_only a) (by simp) (s.breakAttempt_fits a) within
  | completeAttempt a =>
    rw [State.withinCapacity_iff] at within ⊢
    obtain ⟨ring, scan, ⟨urgent, sightings, -⟩, others⟩ := within
    obtain ⟨us, ss, b, dropped, lessUrgent, lessSightings, -⟩ := s.tx.dropEntry_eq a
    rw [dropped]
    exact ⟨ring, scan, ⟨lessUrgent.length_le.trans urgent, lessSightings.length_le.trans sightings, Nat.zero_le _⟩, others⟩
  | trace x =>
    rw [State.withinCapacity_iff] at within ⊢
    obtain ⟨ring, scan, tx, inbox, copies, tracks, trace⟩ := within
    refine ⟨ring, scan, tx, inbox, copies, tracks, ?_⟩
    simp only [State.record32, List.length_drop, List.length_append, List.length_singleton, Config.maxTrace]
    omega
  | inbox es short =>
    rw [State.withinCapacity_iff] at within ⊢
    obtain ⟨ring, scan, tx, inbox, others⟩ := within
    exact ⟨ring, scan, tx, short.elim (·.trans inbox) And.left, others⟩
  | copies es short =>
    rw [State.withinCapacity_iff] at within ⊢
    obtain ⟨ring, scan, tx, inbox, copies, others⟩ := within
    exact ⟨ring, scan, tx, inbox, short.elim (·.trans copies) id, others⟩
  | scan u fits =>
    rw [State.withinCapacity_iff] at within ⊢
    obtain ⟨ring, scan, others⟩ := within
    exact ⟨ring, fits scan, others⟩
  | stop =>
    rw [State.withinCapacity_iff] at within ⊢
    obtain ⟨-, others⟩ := within
    exact ⟨Nat.zero_le _, others⟩
  | start =>
    rw [State.withinCapacity_iff] at within ⊢
    obtain ⟨ring, -, others⟩ := within
    exact ⟨ring, ⟨Nat.zero_le _, Nat.zero_le _, Nat.zero_le _⟩, others⟩
  | remove id =>
    exact s.withinCapacity_of_tracks _ (List.length_filter_le _ _) within
  | change t f =>
    exact s.withinCapacity_of_tracks _ (Nat.le_of_eq (List.length_map _)) within
  | join t others x listed =>
    refine s.withinCapacity_of_tracks _ ?_ within
    rw [(placeTrack_perm _ _ _).length_eq, List.length_cons]
    refine List.length_filter_lt_length_iff_exists.mpr ⟨t, listed, ?_⟩
    simp
  | make x room =>
    rw [State.withinCapacity_iff] at within ⊢
    obtain ⟨ring, scan, tx, inbox, copies, -, trace⟩ := within
    refine ⟨ring, scan, tx, inbox, copies, ?_, trace⟩
    rw [(placeTrack_perm _ _ _).length_eq]
    exact room

theorem Works.keeps_capacity {sights : Prop} {s t : State} (works : Works sights s t) (within : s.withinCapacity) :
    t.withinCapacity := works.keeps (fun _ _ => Move.keeps_capacity) within

theorem pushStamp_length (ring : List Time) (stamp : Time) : (pushStamp ring stamp).length ≤ 16 := by
  simp only [pushStamp, List.length_drop, List.length_append, List.length_singleton, Config.ringSize]
  omega

theorem State.forwardEdge_capacity (s : State) (between : List (List Between)) (within : s.withinCapacity) :
    (s.forwardEdge between).withinCapacity := by
  rw [s.forwardEdge_eq]
  refine State.advances_keeps (P := State.withinCapacity) _ (fun _ _ => Works.keeps_capacity) (fun x sound => ?_) _ _ _ within
  rw [State.withinCapacity_iff] at sound ⊢
  obtain ⟨-, others⟩ := sound
  exact ⟨pushStamp_length _ _, others⟩

theorem Belt.repitch_eq (b : Belt) (old new : Record) : ∃ n, b.repitch old new = { b with accumulator := n }
    ∧ (n = b.accumulator ∨ n = 0) := by
  unfold Belt.repitch
  split
  · exact ⟨_, rfl, .inr rfl⟩
  · exact ⟨_, rfl, .inl rfl⟩

theorem State.writeRecord_capacity (s : State) (offset : Nat) (data : List Byte) (within : s.withinCapacity) :
    (s.writeRecord offset data).withinCapacity := by
  refine (s.writeRecord_works offset data).keeps_capacity ?_
  obtain ⟨n, pitched, -⟩ := s.belt.repitch_eq s.record (s.record.write offset data)
  rw [pitched]
  exact within

theorem State.warmRestart_capacity (s : State) (within : s.withinCapacity) : s.warmRestart.withinCapacity := by
  rw [State.withinCapacity_iff] at within ⊢
  obtain ⟨ring, -, -, -, -, -, trace⟩ := within
  refine ⟨by simpa [State.warmRestart] using ring, ⟨Nat.zero_le _, Nat.zero_le _, Nat.zero_le _⟩,
    ⟨Nat.zero_le _, Nat.zero_le _, Nat.zero_le _⟩, Nat.zero_le _, Nat.zero_le _, Nat.zero_le _,
    by simpa [State.warmRestart] using trace⟩

/-- Settles O6: every move keeps the capacities, an advance keeps the ring, and the other effects leave lists as short. -/
theorem stepKeepsCapacities : Obligations.StepKeepsCapacities := by
  intro s t within next
  refine step_keeps (fun x y only => State.withinCapacity_of_same only (by simp)) (fun x sound => sound) ?_ within next
  intro c x y effect sound
  cases effect with
  | works h => exact h.keeps_capacity sound
  | edge _ between => exact x.forwardEdge_capacity between sound
  | write offset count data => exact State.withinCapacity_of_same (State.answer_only _ _ _) (by simp) (x.writeRecord_capacity _ _ sound)
  | restart => exact State.withinCapacity_of_same (State.answer_only _ _ _) (by simp) (x.warmRestart_capacity sound)
  | clearFlags | clearTallies => exact sound
  | cold =>
    rw [State.withinCapacity_iff]
    simp [State.cold, Belt.cold, ScanUnit.cold, Transmitter.cold, ScanUnit.fits, Transmitter.fits]

end Sys2Proof.Machine

/-! PROOF. The agreement of the transmitter's entry, error counts and MUTE (R51, R52, R56, R57) through every step. -/

namespace Sys2Proof.Machine

/-- The agreement speaks of transmitter and line status alone. -/
theorem State.transmitterSound_of_same {s t : State} (tx : t.tx = s.tx) (line : t.line = s.line) (sound : s.transmitterSound) :
    t.transmitterSound := by
  unfold State.transmitterSound at sound ⊢
  rw [tx, line]
  exact sound

/-- On a line without a frame no attempt stands. -/
theorem State.attempt_none_of_free {s : State} (sound : s.transmitterSound) (free : s.line.status.free) :
    s.tx.attempt = none := by
  obtain ⟨sending, -⟩ := sound
  cases attempt : s.tx.attempt with
  | none => rfl
  | some a =>
    obtain ⟨receiving, -⟩ := sending a attempt
    rcases free with waiting | idle
    · simp [waiting] at receiving
    · simp [idle] at receiving

/-- Without an attempt the line may do as it will. -/
theorem State.transmitterSound_of_quiet {s t : State} (tx : t.tx = s.tx) (quiet : s.tx.attempt = none)
    (sound : s.transmitterSound) : t.transmitterSound := by
  obtain ⟨-, others⟩ := sound
  unfold State.transmitterSound
  rw [tx]
  exact ⟨fun a sending => by simp [quiet] at sending, others⟩

/-- A longer urgent queue and a longer sighting queue keep the entry of an attempt at its place. -/
theorem Transmitter.entryStands_append (x : Transmitter) (a : Attempt) (us : List UrgentEntry) (ss : List SightingEntry)
    (stands : x.entryStands a) :
    ({ x with urgent := x.urgent ++ us, sightings := x.sightings ++ ss } : Transmitter).entryStands a := by
  unfold Transmitter.entryStands at stands ⊢
  cases fate : a.fate <;> cases source : a.source <;> simp_all

theorem State.enqueueUrgent_sound (s : State) (u : Urgent) (sound : s.transmitterSound) :
    (s.enqueueUrgent u).transmitterSound := by
  have line := s.enqueueUrgent_only u .line (by simp)
  obtain same | ⟨loud, -, queued⟩ := s.enqueueUrgent_tx u
  · exact State.transmitterSound_of_same same line sound
  · obtain ⟨sending, urgent, sightings, beacon, most, mute, -⟩ := sound
    unfold State.transmitterSound
    rw [queued, line]
    refine ⟨fun a attempt => ⟨(sending a attempt).1, ?_⟩, ?_, sightings, beacon, most, mute, fun muted => by simp [loud] at muted⟩
    · simpa using s.tx.entryStands_append a [{ content := u, errors := 0 }] [] (sending a attempt).2
    · simpa [or_imp, forall_and] using urgent

theorem State.enqueueSighting_sound (s : State) (x : Sighting) (sound : s.transmitterSound) :
    (s.enqueueSighting x).transmitterSound := by
  have line := s.enqueueSighting_only x .line (by simp)
  obtain same | ⟨loud, -, queued⟩ := s.enqueueSighting_tx x
  · exact State.transmitterSound_of_same same line sound
  · obtain ⟨sending, urgent, sightings, beacon, most, mute, -⟩ := sound
    unfold State.transmitterSound
    rw [queued, line]
    refine ⟨fun a attempt => ⟨(sending a attempt).1, ?_⟩, urgent, ?_, beacon, most, mute, fun muted => by simp [loud] at muted⟩
    · simpa using s.tx.entryStands_append a [] [{ sighting := x, errors := 0 }] (sending a attempt).2
    · simpa [or_imp, forall_and] using sightings

/-- A STATUS placed keeps the entry of an attempt: its own, which is then replaced, or another's (R52). -/
theorem Transmitter.entryStands_replace (x : Transmitter) (a : Attempt) (stands : x.entryStands a)
    (attempt : Option Attempt) : ({ x with beacon := some 0, attempt := attempt } : Transmitter).entryStands a.replace := by
  unfold Transmitter.entryStands Attempt.replace at *
  cases fate : a.fate <;> cases source : a.source <;> simp_all

theorem State.placeStatus_sound (s : State) (sound : s.transmitterSound) : s.placeStatus.transmitterSound := by
  have line := s.placeStatus_only .line (by simp)
  obtain same | ⟨loud, placed⟩ := s.placeStatus_tx
  · exact State.transmitterSound_of_same same line sound
  · obtain ⟨sending, urgent, sightings, -, most, mute, -⟩ := sound
    unfold State.transmitterSound
    rw [placed, line]
    refine ⟨fun b attempt => ?_, urgent, sightings, fun n slot => ?_, most, mute, fun muted => by simp [loud] at muted⟩
    · obtain ⟨a, before, rfl⟩ := Option.map_eq_some_iff.mp attempt
      exact ⟨(sending a before).1, s.tx.entryStands_replace a (sending a before).2 _⟩
    · exact Option.some.inj slot ▸ Nat.zero_le 2

theorem State.begin_sound (s : State) (sound : s.transmitterSound) : s.begin.transmitterSound := by
  obtain same | ⟨may, line, a, queue, suffix, begun, which⟩ := s.begin_tx
  · rwa [same]
  · obtain ⟨idle, -, loud, -⟩ := s.mayBegin_iff.mp may
    have none := State.attempt_none_of_free sound (.inr idle)
    obtain ⟨-, urgent, sightings, beacon, most, mute, -⟩ := sound
    unfold State.transmitterSound
    rw [begun, line]
    refine ⟨fun b attempt => ⟨rfl, ?_⟩, urgent, fun e he => sightings e (suffix.subset he), beacon, most, mute,
      fun muted => by simp [loud] at muted⟩
    rcases which with same | ⟨c, is, stands⟩
    · cases (same.trans none).symm.trans attempt
    · obtain rfl : c = b := Option.some.inj (is.symm.trans attempt)
      exact stands

theorem State.breakAttempt_sound (s : State) (a : Attempt) (sending : s.tx.attempt = some a) (sound : s.transmitterSound) :
    ((s.breakFrame.chargeEntry a).countError).transmitterSound := by
  obtain ⟨-, urgent, sightings, beacon, most, mute, silent⟩ := sound
  have loud : s.tx.mute = false := by
    cases muted : s.tx.mute with
    | false => rfl
    | true =>
      obtain ⟨-, -, -, none⟩ := silent muted
      simp [none] at sending
  have below : s.tx.consecutive ≠ 16 := by simpa [loud] using mute
  obtain ⟨us, ss, b, charged, -, -, fewUrgent, fewSightings, fewBeacon⟩ := s.breakFrame.chargeEntry_tx a
  unfold State.transmitterSound
  obtain ⟨less, counted⟩ | ⟨-, counted⟩ := (s.breakFrame.chargeEntry a).countError_tx
  · rw [counted]
    rw [charged] at less ⊢
    refine ⟨fun _ none => (by cases none), fewUrgent urgent, fewSightings sightings, fewBeacon beacon, Nat.le_of_lt less, ?_,
      fun muted => ?_⟩
    · exact loud.trans (decide_eq_false (Nat.ne_of_lt less)).symm
    · exact absurd (loud.symm.trans muted) Bool.false_ne_true
  · rw [counted, State.enterMute_tx]
    have attempt : (s.breakFrame.chargeEntry a).tx.attempt = none := by rw [charged]; rfl
    simp [attempt]

theorem State.completeAttempt_sound (s : State) (a : Attempt) (sending : s.tx.attempt = some a) (sound : s.transmitterSound) :
    State.transmitterSound { s with
      tx := { s.tx.dropEntry a with attempt := none, sequence := s.tx.sequence + 1, consecutive := 0 }
      line := { s.line with status := .receiving true } } := by
  obtain ⟨-, urgent, sightings, beacon, most, mute, silent⟩ := sound
  have loud : s.tx.mute = false := by
    cases muted : s.tx.mute with
    | false => rfl
    | true =>
      obtain ⟨-, -, -, none⟩ := silent muted
      simp [none] at sending
  obtain ⟨us, ss, b, dropped, lessUrgent, lessSightings, slot⟩ := s.tx.dropEntry_eq a
  unfold State.transmitterSound
  rw [dropped]
  refine ⟨fun _ none => (by cases none), fun e he => urgent e (lessUrgent.subset he),
    fun e he => sightings e (lessSightings.subset he), fun n stands => ?_, Nat.zero_le _, loud,
    fun muted => absurd (loud.symm.trans muted) Bool.false_ne_true⟩
  rcases slot with same | none
  · exact beacon n (same ▸ stands)
  · cases none.symm.trans stands

theorem Move.keeps_transmitter {sights : Prop} {s t : State} (move : Move sights s t) (sound : s.transmitterSound) :
    t.transmitterSound := by
  cases move with
  | aside only => exact State.transmitterSound_of_same (only .tx (by simp)) (only .line (by simp)) sound
  | grant t f =>
    have only := s.granted_only t f.tClose fun u => { u with state := .firing, valveSet := some (s.grantedSet t) }
    exact State.transmitterSound_of_same (only .tx (by simp)) (only .line (by simp)) sound
  | hold n => exact State.transmitterSound_of_same (s.held_only n .tx (by simp)) (s.held_only n .line (by simp)) sound
  | enqueueUrgent u => exact s.enqueueUrgent_sound u sound
  | enqueueSighting x => exact s.enqueueSighting_sound x sound
  | placeStatus => exact s.placeStatus_sound sound
  | begin => exact s.begin_sound sound
  | lineIdle free => exact State.transmitterSound_of_quiet (s := s) rfl (State.attempt_none_of_free sound free) sound
  | latch free => exact State.transmitterSound_of_quiet (s := s) rfl (State.attempt_none_of_free sound free) sound
  | endFrame quiet => exact State.transmitterSound_of_quiet (s := s) rfl quiet sound
  | loseAttempt =>
    obtain ⟨-, urgent, sightings, beacon, most, mute, silent⟩ := sound
    refine ⟨fun _ none => (by cases none), urgent, sightings, beacon, most, mute, fun muted => ?_⟩
    obtain ⟨noUrgent, noSighting, noBeacon, -⟩ := silent muted
    exact ⟨noUrgent, noSighting, noBeacon, rfl⟩
  | breakAttempt a sending => exact s.breakAttempt_sound a sending sound
  | completeAttempt a sending => exact s.completeAttempt_sound a sending sound
  | beaconDue due => exact sound
  | _ => exact State.transmitterSound_of_same rfl rfl sound

theorem Works.keeps_transmitter {sights : Prop} {s t : State} (works : Works sights s t) (sound : s.transmitterSound) :
    t.transmitterSound := works.keeps (fun _ _ => Move.keeps_transmitter) sound

/-- A warm restart empties queues and slot; an attempt runs on without its entry (R58). -/
theorem State.warmRestart_transmitter (s : State) (sound : s.transmitterSound) : s.warmRestart.transmitterSound := by
  obtain ⟨sending, -⟩ := sound
  have line : s.warmRestart.line = s.line := by simp [State.warmRestart]
  unfold State.transmitterSound
  rw [line]
  refine ⟨fun b attempt => ?_, by simp [State.warmRestart, Transmitter.restarted]⟩
  obtain ⟨a, before, rfl⟩ := Option.map_eq_some_iff.mp attempt
  exact ⟨(sending a before).1, rfl⟩

theorem State.writeRecord_transmitter (s : State) (offset : Nat) (data : List Byte) (sound : s.transmitterSound) :
    (s.writeRecord offset data).transmitterSound :=
  (s.writeRecord_works offset data).keeps_transmitter (State.transmitterSound_of_same (s := s) rfl rfl sound)

theorem State.answer_transmitter (s : State) (status : PortStatus) (rest : List Byte) (sound : s.transmitterSound) :
    (s.answer status rest).transmitterSound :=
  State.transmitterSound_of_same (s.answer_only _ _ .tx (by simp)) (s.answer_only _ _ .line (by simp)) sound

/-- Settles O14: every move keeps the agreement, an advance leaves the transmitter alone, and a restart empties it. -/
theorem stepKeepsTransmitter : Obligations.StepKeepsTransmitter := by
  intro s t sound next
  refine step_keeps (fun x y only => State.transmitterSound_of_same (only .tx (by simp)) (only .line (by simp)))
    (fun x held => held) ?_ sound next
  intro c x y effect held
  cases effect with
  | works h => exact h.keeps_transmitter held
  | edge _ between =>
    rw [x.forwardEdge_eq]
    exact State.advances_keeps (P := State.transmitterSound) _ (fun _ _ => Works.keeps_transmitter) (fun _ kept => kept) _ _ _ held
  | write offset count data => exact State.answer_transmitter _ _ _ (x.writeRecord_transmitter _ _ held)
  | restart => exact State.answer_transmitter _ _ _ (x.warmRestart_transmitter held)
  | clearFlags | clearTallies => exact held
  | cold => simp [State.cold, Transmitter.cold, State.transmitterSound]

end Sys2Proof.Machine

/-! PROOF. The configuration record (R169, R170): what a write leaves in each byte, and that it stays in range through every step. -/

namespace Sys2Proof.Machine

/-! ## Bytes written -/

theorem byteOf_toNat (n : Nat) : (byteOf n).toNat = n % 256 := BitVec.toNat_ofNat n 8

theorem Record.byte_setByte (r : Record) (i : Nat) (b : Byte) (j : Nat) :
    (r.setByte i b).byte j = if j = i ∧ i < 117 then b else r.byte j := by
  by_cases same : j = i
  · subst same
    by_cases inside : j < 117 <;> simp [Record.byte, Record.setByte, inside]
  · simp [Record.byte, Record.setByte, Ne.symm same, same]

theorem Record.byte_setWord (r : Record) (i v : Nat) (j : Nat) (inside : i + 1 < 117) :
    (r.setWord i v).byte j = if j = i then byteOf (v / 256) else if j = i + 1 then byteOf v else r.byte j := by
  unfold Record.setWord
  rw [Record.byte_setByte, Record.byte_setByte]
  by_cases first : j = i
  · simp [first, (by omega : i < 117)]
  · simp [first, inside]

theorem Record.byte_put (data : List Byte) : ∀ (r : Record) (offset j : Nat), j < 117 →
    (r.put offset data).byte j = if offset ≤ j ∧ j < offset + data.length then data.getD (j - offset) 0 else r.byte j := by
  induction data with
  | nil =>
    intro r offset j _
    rw [if_neg (by simp), Record.put]
  | cons b rest ih =>
    intro r offset j inside
    rw [Record.put, ih _ _ _ inside, Record.byte_setByte]
    by_cases first : j = offset
    · subst first
      simp [inside]
    · by_cases later : offset + 1 ≤ j
      · rw [show j - offset = (j - (offset + 1)) + 1 by omega]
        simp [first, later, (by omega : offset ≤ j), (by omega : j < offset + (rest.length + 1) ↔ j < offset + 1 + rest.length)]
      · rw [if_neg (by omega), if_neg (by omega), if_neg (by simp; omega)]

theorem Record.wordAt_setWord (r : Record) (i v : Nat) (inside : i + 1 < 117) (word : v < 65536) :
    (r.setWord i v).wordAt i = v := by
  simp only [Record.wordAt, Record.byteAt, Record.byte_setWord _ _ _ _ inside, if_pos, byteOf_toNat,
    if_neg (show ¬ i + 1 = i by omega)]
  omega

/-! ## Fields -/

/-- The byte `j` of the record belongs to the field. -/
abbrev Field.covers (f : Field) (j : Nat) : Prop := f.offset ≤ j ∧ j < f.offset + f.size

/-- A field lies in the record, its clamp is one for its size, and its range is one of its bytes. -/
def Field.wellFormed (f : Field) : Bool :=
  decide (f.offset + f.size ≤ 117) &&
    match f.clamp with
    | .unsigned lo hi =>
      decide (lo ≤ hi) && ((decide (f.size = 1) && decide (hi ≤ 255)) || (decide (f.size = 2) && decide (hi ≤ 65535)))
    | .signed lo hi => decide (f.size = 1) && (decide (-128 ≤ lo) && (decide (lo ≤ hi) && decide (hi ≤ 127)))
    | .masked _ => decide (f.size = 1)
    | .marked hi => decide (f.size = 1) && decide (hi ≤ 7)

theorem recordFields_wellFormed : ∀ f ∈ recordFields, f.wellFormed := by decide

/-- The fields of Table 10-3 stand one after another. -/
theorem recordFields_apart : recordFields.Pairwise fun f g => f.offset + f.size ≤ g.offset := by
  have chain : recordFields.IsChain fun f g => f.offset + f.size ≤ g.offset := by simp [recordFields, repeatField, List.range, List.range.loop]
  have trans : Trans (fun f g : Field => f.offset + f.size ≤ g.offset) (fun f g : Field => f.offset + f.size ≤ g.offset)
      (fun f g : Field => f.offset + f.size ≤ g.offset) := ⟨fun h k => by omega⟩
  exact chain.pairwise

theorem Field.size_le_two {f : Field} (wf : f.wellFormed) : f.size = 1 ∨ f.size = 2 := by
  unfold Field.wellFormed at wf
  cases clamp : f.clamp <;> simp [clamp] at wf <;> omega

theorem Field.inside {f : Field} (wf : f.wellFormed) : f.offset + f.size ≤ 117 := by
  simp only [Field.wellFormed, Bool.and_eq_true, decide_eq_true_eq] at wf
  exact wf.1

theorem Field.size_pos {f : Field} (wf : f.wellFormed) : 0 < f.size := by
  obtain one | two := f.size_le_two wf <;> omega

/-! ## The clamp of one field -/

/-- The value of a field is that of its own bytes alone. -/
theorem Record.brought_congr {r r' : Record} {f : Field} {raw raw' : Nat → Byte} (wf : f.wellFormed)
    (bytes : ∀ j, f.covers j → r'.byte j = r.byte j) (raws : ∀ j, f.covers j → raw' j = raw j)
    (brought : r.brought f raw) : r'.brought f raw' := by
  have first : f.covers f.offset := ⟨Nat.le_refl _, Nat.lt_add_of_pos_right (f.size_pos wf)⟩
  unfold Record.brought Record.wordAt Record.byteAt at *
  cases clamp : f.clamp <;> simp only [clamp] at brought ⊢
  case unsigned lo hi =>
    obtain ⟨byte, word⟩ := brought
    refine ⟨fun one => ?_, fun two => ?_⟩
    · rw [bytes _ first, raws _ first]
      exact byte one
    · have second : f.covers (f.offset + 1) := ⟨Nat.le_succ _, by omega⟩
      rw [bytes _ first, raws _ first, bytes _ second, raws _ second]
      exact word two
  all_goals
    rw [bytes _ first, raws _ first]
    exact brought

/-- A field brought into its range has a value of its range. -/
theorem Record.holds_of_brought {r : Record} {f : Field} {raw : Nat → Byte} (wf : f.wellFormed) (brought : r.brought f raw) :
    r.holds f := by
  have size := f.size_le_two wf
  unfold Record.brought at brought
  unfold Field.wellFormed at wf
  unfold Record.holds
  cases clamp : f.clamp <;> simp only [clamp] at brought wf ⊢
  case unsigned lo hi =>
    obtain ⟨byte, word⟩ := brought
    have ordered : lo ≤ hi := by simp only [Bool.and_eq_true, decide_eq_true_eq] at wf; exact wf.2.1
    obtain one | two := size
    · rw [if_neg (by omega), byte one]
      simp only [Bool.and_eq_true, decide_eq_true_eq]
      omega
    · rw [if_pos two, word two]
      simp only [Bool.and_eq_true, decide_eq_true_eq]
      omega
  case signed lo hi =>
    simp only [Bool.and_eq_true, decide_eq_true_eq] at wf ⊢
    omega
  case masked bits =>
    rw [brought, beq_iff_eq]
    ext i
    simp
  case marked hi =>
    obtain ⟨-, small⟩ : f.size = 1 ∧ hi ≤ 7 := by
      simp only [Bool.and_eq_true, decide_eq_true_eq] at wf
      exact wf.2
    have bounded : min hi ((raw f.offset).toNat % 8) < 8 := by omega
    have least : min hi ((raw f.offset).toNat % 8) ≤ hi := Nat.min_le_left _ _
    simp only [Record.byteAt, brought]
    generalize min hi ((raw f.offset).toNat % 8) = n at bounded least
    have parts : ∀ (b : Byte) (n : Fin 8),
        ((b &&& 128) ||| BitVec.ofNat 8 n.val) &&& 120 = 0 ∧ ((b &&& 128) ||| BitVec.ofNat 8 n.val).toNat % 8 = n.val := by
      decide
    obtain ⟨clear, code⟩ := parts (raw f.offset) ⟨n, bounded⟩
    simp only [Bool.and_eq_true, beq_iff_eq, decide_eq_true_eq]
    exact ⟨clear, Nat.le_of_eq code |>.trans least⟩

theorem Record.holds_congr {r r' : Record} {f : Field} (wf : f.wellFormed) (bytes : ∀ j, f.covers j → r'.byte j = r.byte j) :
    r'.holds f = r.holds f := by
  have first : f.covers f.offset := ⟨Nat.le_refl _, Nat.lt_add_of_pos_right (f.size_pos wf)⟩
  unfold Record.holds Record.wordAt Record.byteAt
  rw [bytes _ first]
  obtain one | two := f.size_le_two wf
  · simp [one]
  · have second : f.covers (f.offset + 1) := ⟨Nat.le_succ _, by omega⟩
    rw [bytes _ second]

/-- A clamp changes its own field alone. -/
theorem Record.byte_clampField_outside (r : Record) {f : Field} (wf : f.wellFormed) {j : Nat} (outside : ¬ f.covers j) :
    (r.clampField f).byte j = r.byte j := by
  have inside := f.inside wf
  have size := f.size_le_two wf
  unfold Record.clampField
  split
  · split
    next two =>
      rw [Record.byte_setWord _ _ _ _ (by omega), if_neg (by omega), if_neg (by omega)]
    · rw [Record.byte_setByte, if_neg (by omega)]
  all_goals rw [Record.byte_setByte, if_neg (by omega)]

/-- A clamp brings its field into its range. -/
theorem Record.clampField_brought (r : Record) {f : Field} (wf : f.wellFormed) : (r.clampField f).brought f r.byte := by
  have inside := f.inside wf
  have positive := f.size_pos wf
  unfold Field.wellFormed at wf
  unfold Record.brought Record.clampField
  cases clamp : f.clamp <;> simp only [clamp] at wf ⊢
  case unsigned lo hi =>
    simp only [Bool.and_eq_true, Bool.or_eq_true, decide_eq_true_eq] at wf
    obtain ⟨-, ordered, range⟩ := wf
    refine ⟨fun one => ?_, fun two => ?_⟩
    · rw [if_neg (by omega)]
      simp only [Record.byteAt, Record.byte_setByte, true_and, if_pos (show f.offset < 117 by omega), byteOf_toNat, clampNat]
      omega
    · rw [if_pos two]
      exact r.wordAt_setWord f.offset (clampNat lo hi (r.wordAt f.offset)) (by omega) (by unfold clampNat; omega)
  case signed lo hi =>
    simp only [Bool.and_eq_true, decide_eq_true_eq] at wf
    obtain ⟨-, -, least, ordered, greatest⟩ := wf
    rw [Record.byte_setByte, if_pos ⟨rfl, by omega⟩, BitVec.toInt_ofInt, clampInt]
    exact Int.bmod_eq_of_le (by omega) (by omega)
  case masked bits => rw [Record.byte_setByte, if_pos ⟨rfl, by omega⟩]
  case marked hi => rw [Record.byte_setByte, if_pos ⟨rfl, by omega⟩]; rfl

/-! ## The clamps of a write -/

theorem Record.byte_clampFields_outside (fs : List Field) : ∀ (r : Record) (j : Nat),
    (∀ f ∈ fs, f.wellFormed ∧ ¬ f.covers j) → (fs.foldl Record.clampField r).byte j = r.byte j := by
  induction fs with
  | nil => exact fun r j _ => rfl
  | cons f rest ih =>
    intro r j outside
    obtain ⟨⟨wf, other⟩, others⟩ := List.forall_mem_cons.mp outside
    rw [List.foldl_cons, ih _ _ others, r.byte_clampField_outside wf other]

/-- Each of several clamps brings its own field into its range, the fields standing apart. -/
theorem Record.clampFields_brought (fs : List Field) (apart : fs.Pairwise fun f g => f.offset + f.size ≤ g.offset) :
    ∀ r : Record, (∀ f ∈ fs, f.wellFormed) → ∀ f ∈ fs, (fs.foldl Record.clampField r).brought f r.byte := by
  induction fs with
  | nil => exact fun r _ f none => absurd none List.not_mem_nil
  | cons g rest ih =>
    intro r wellFormed f listed
    obtain ⟨first, later⟩ := List.pairwise_cons.mp apart
    obtain ⟨wf, wfs⟩ := List.forall_mem_cons.mp wellFormed
    rw [List.foldl_cons]
    rcases List.mem_cons.mp listed with rfl | listed
    · refine Record.brought_congr wf (fun j covered => ?_) (fun j _ => rfl) (r.clampField_brought wf)
      refine Record.byte_clampFields_outside rest _ j fun g other => ⟨wfs g other, ?_⟩
      have := first g other
      omega
    · refine Record.brought_congr (wfs f listed) (fun j _ => rfl) (fun j covered => ?_) (ih later _ wfs f listed)
      have := first f listed
      exact (r.byte_clampField_outside wf (by omega)).symm

/-- The record after the bytes and the clamps of a write, before the agreements (R169, R170). -/
def Record.clamped (r : Record) (offset : Nat) (data : List Byte) : Record :=
  (recordFields.filter fun f => f.touchedBy offset data.length).foldl Record.clampField (r.put offset data)

theorem Record.write_eq (r : Record) (offset : Nat) (data : List Byte) :
    r.write offset data = (r.clamped offset data).agree := rfl

theorem touched_wellFormed {offset n : Nat} {f : Field} (listed : f ∈ recordFields.filter fun f => f.touchedBy offset n) :
    f.wellFormed := recordFields_wellFormed f (List.mem_of_mem_filter listed)

/-- A field touched by the write is brought into its range. -/
theorem Record.clamped_brought (r : Record) (offset : Nat) (data : List Byte) {f : Field} (listed : f ∈ recordFields)
    (touched : f.touchedBy offset data.length) : (r.clamped offset data).brought f (r.put offset data).byte :=
  Record.clampFields_brought _ (recordFields_apart.filter _) _ (fun _ => touched_wellFormed) f
    (List.mem_filter.mpr ⟨listed, touched⟩)

/-- A byte of no field touched is what the data make it. -/
theorem Record.byte_clamped_outside (r : Record) (offset : Nat) (data : List Byte) {j : Nat}
    (outside : ∀ f ∈ recordFields, f.touchedBy offset data.length → ¬ f.covers j) :
    (r.clamped offset data).byte j = (r.put offset data).byte j :=
  Record.byte_clampFields_outside _ _ j fun f listed =>
    ⟨touched_wellFormed listed, outside f (List.mem_of_mem_filter listed) (List.mem_filter.mp listed).2⟩

theorem Field.touchedBy_iff (f : Field) (offset n : Nat) :
    f.touchedBy offset n ↔ 0 < n ∧ f.offset < offset + n ∧ offset < f.offset + f.size := by
  simp [Field.touchedBy, and_assoc]

/-- Two fields that share a byte are one. -/
theorem recordFields_eq_of_covers {f g : Field} (hf : f ∈ recordFields) (hg : g ∈ recordFields) {j : Nat} (cf : f.covers j)
    (cg : g.covers j) : f = g := by
  by_contra differ
  have apart := recordFields_apart.imp (S := fun f g => ¬ (f.covers j ∧ g.covers j)) (by intro f g before; omega)
  have symm : Std.Symm fun f g : Field => ¬ (f.covers j ∧ g.covers j) := ⟨fun f g h k => h k.symm⟩
  exact apart.forall hf hg differ ⟨cf, cg⟩

/-- A field not touched keeps its bytes. -/
theorem Record.byte_clamped_untouched (r : Record) (offset : Nat) (data : List Byte) {f : Field} (listed : f ∈ recordFields)
    (untouched : ¬ f.touchedBy offset data.length) {j : Nat} (covered : f.covers j) :
    (r.clamped offset data).byte j = r.byte j := by
  have inside := f.inside (recordFields_wellFormed f listed)
  rw [r.byte_clamped_outside offset data, Record.byte_put _ _ _ _ (by omega), if_neg]
  · rw [Field.touchedBy_iff] at untouched
    omega
  · intro g other touched both
    exact untouched (recordFields_eq_of_covers listed other covered both ▸ touched)

/-! ## The agreements -/

theorem Record.byteAt_lt (r : Record) (i : Nat) : r.byteAt i < 256 := (r.byte i).isLt

theorem Record.wordAt_lt (r : Record) (i : Nat) : r.wordAt i < 65536 := by
  have := r.byteAt_lt i
  have := r.byteAt_lt (i + 1)
  unfold Record.wordAt
  omega

/-- The minimum pulse is brought down to the maximum open time, and B_low to B; no other byte changes (R170). -/
theorem Record.agree_spec (r : Record) :
    r.agree.minPulse = min r.maxOpen r.minPulse ∧ r.agree.budgetLow = min r.budget r.budgetLow
      ∧ ∀ j, j ≠ 81 → j ≠ 82 → j ≠ 88 → r.agree.byte j = r.byte j := by
  have word := r.wordAt_lt 83
  have pulse : ∃ r1 : Record, r1 = (if r.maxOpen < r.minPulse then r.setWord 81 r.maxOpen else r)
      ∧ r1.minPulse = min r.maxOpen r.minPulse ∧ ∀ j, j ≠ 81 → j ≠ 82 → r1.byte j = r.byte j := by
    refine ⟨_, rfl, ?_⟩
    split
    next less =>
      refine ⟨(r.wordAt_setWord 81 _ (by decide) word).trans (Nat.min_eq_left (Nat.le_of_lt less)).symm, fun j first second => ?_⟩
      rw [Record.byte_setWord _ _ _ _ (by decide), if_neg first, if_neg second]
    next more => exact ⟨(Nat.min_eq_right (Nat.le_of_not_lt more)).symm, fun _ _ _ => rfl⟩
  obtain ⟨r1, is, minPulse, others⟩ := pulse
  have budget : r1.budget = r.budget := congrArg BitVec.toNat (others 87 (by decide) (by decide))
  have low : r1.budgetLow = r.budgetLow := congrArg BitVec.toNat (others 88 (by decide) (by decide))
  have agree : r.agree = if r1.budget < r1.budgetLow then r1.setByte 88 (byteOf r1.budget) else r1 := by rw [is]; rfl
  rw [agree, budget, low]
  have apart : ∀ j, j ≠ 88 → (r1.setByte 88 (byteOf r.budget)).byte j = r1.byte j := fun j other => by
    rw [Record.byte_setByte, if_neg (by omega)]
  split
  next less =>
    refine ⟨?_, ?_, fun j first second third => (apart j third).trans (others j first second)⟩
    · rw [← minPulse]
      exact congrArg₂ (fun a b : Byte => a.toNat * 256 + b.toNat) (apart 81 (by decide)) (apart 82 (by decide))
    · have byte := r.byteAt_lt 87
      rw [Nat.min_eq_left (Nat.le_of_lt less), Record.budgetLow, Record.byteAt, Record.byte_setByte,
        if_pos ⟨rfl, by decide⟩, byteOf_toNat]
      exact Nat.mod_eq_of_lt byte
  next more =>
    exact ⟨minPulse, low.trans (Nat.min_eq_right (Nat.le_of_not_lt more)).symm, fun j first second _ => others j first second⟩

/-! ## In range after a write -/

theorem Record.inRange_iff (r : Record) :
    r.inRange ↔ (∀ f ∈ recordFields, r.holds f) ∧ r.minPulse ≤ r.maxOpen ∧ r.budgetLow ≤ r.budget := by
  simp [Record.inRange, and_assoc]

/-- A field of two unsigned bytes lies between its bounds. -/
theorem Record.wordAt_bounds {r : Record} {offset lo hi : Nat} (holds : r.holds ⟨offset, 2, .unsigned lo hi⟩) :
    lo ≤ r.wordAt offset ∧ r.wordAt offset ≤ hi := by
  simpa [Record.holds] using holds

theorem Record.clamped_holds (r : Record) (offset : Nat) (data : List Byte) {f : Field} (listed : f ∈ recordFields)
    (holds : r.holds f) : (r.clamped offset data).holds f := by
  have wf := recordFields_wellFormed f listed
  by_cases touched : f.touchedBy offset data.length
  · exact Record.holds_of_brought wf (r.clamped_brought offset data listed touched)
  · rw [Record.holds_congr wf fun j => r.byte_clamped_untouched offset data listed touched]
    exact holds

/-- The agreements keep every field in its range: the maximum open time is at least 5,000 and B at least 1. -/
theorem Record.agree_inRange {r : Record} (holds : ∀ f ∈ recordFields, r.holds f) : r.agree.inRange := by
  obtain ⟨pulse, low, others⟩ := r.agree_spec
  have openTime := Record.wordAt_bounds (holds ⟨83, 2, .unsigned 5000 60000⟩ (by decide))
  have pulses := Record.wordAt_bounds (holds ⟨81, 2, .unsigned 500 20000⟩ (by decide))
  have lows : r.budgetLow ≤ 32 := by simpa [Record.holds, Record.budgetLow] using holds ⟨88, 1, .unsigned 0 32⟩ (by decide)
  have maxOpen : r.agree.maxOpen = r.maxOpen :=
    congrArg₂ (fun a b : Byte => a.toNat * 256 + b.toNat) (others 83 (by decide) (by decide) (by decide))
      (others 84 (by decide) (by decide) (by decide))
  have budget : r.agree.budget = r.budget := congrArg BitVec.toNat (others 87 (by decide) (by decide) (by decide))
  rw [Record.inRange_iff, pulse, low, maxOpen, budget]
  refine ⟨fun f listed => ?_, Nat.min_le_left _ _, Nat.min_le_left _ _⟩
  by_cases isPulse : f = ⟨81, 2, .unsigned 500 20000⟩
  · subst isPulse
    unfold Record.minPulse Record.maxOpen at pulse
    simp only [Record.holds, if_pos, pulse, Bool.and_eq_true, decide_eq_true_eq]
    omega
  · by_cases isLow : f = ⟨88, 1, .unsigned 0 32⟩
    · subst isLow
      unfold Record.budgetLow Record.budget at *
      simp only [Record.holds, low]
      simp
      omega
    · rw [Record.holds_congr (recordFields_wellFormed f listed) fun j covered => others j ?_ ?_ ?_]
      · exact holds f listed
      · rintro rfl
        exact isPulse (recordFields_eq_of_covers listed (by decide) covered (by decide : Field.covers _ 81))
      · rintro rfl
        exact isPulse (recordFields_eq_of_covers listed (by decide) covered (by decide : Field.covers _ 82))
      · rintro rfl
        exact isLow (recordFields_eq_of_covers listed (by decide) covered (by decide : Field.covers _ 88))

theorem Record.write_inRange (r : Record) (offset : Nat) (data : List Byte) (sound : r.inRange) :
    (r.write offset data).inRange :=
  Record.agree_inRange fun _ listed => r.clamped_holds offset data listed (Record.holds_of_inRange sound listed)

theorem Record.cold_inRange : Record.cold.inRange := by decide

/-! ## The record through every step -/

theorem Move.keeps_record {sights : Prop} {s t : State} (move : Move sights s t) : t.record = s.record := by
  cases move with
  | aside only => exact only .record (by simp)
  | grant t f =>
    have only := s.granted_only t f.tClose fun u => { u with state := .firing, valveSet := some (s.grantedSet t) }
    exact only .record (by simp)
  | hold n => exact s.held_only n .record (by simp)
  | enqueueUrgent u => exact s.enqueueUrgent_only u .record (by simp)
  | enqueueSighting x => exact s.enqueueSighting_only x .record (by simp)
  | placeStatus => exact s.placeStatus_only .record (by simp)
  | begin => exact s.begin_only .record (by simp)
  | breakAttempt a => exact s.breakAttempt_only a .record (by simp)
  | _ => rfl

theorem Works.keeps_record {sights : Prop} {s t : State} (works : Works sights s t) : t.record = s.record :=
  works.relates (R := fun s t => t.record = s.record) (fun _ => rfl) (fun _ _ _ first second => second.trans first)
    fun _ _ => Move.keeps_record

theorem State.writeRecord_record (s : State) (offset : Nat) (data : List Byte) :
    (s.writeRecord offset data).record = s.record.write offset data := (s.writeRecord_works offset data).keeps_record

theorem State.forwardEdge_record (s : State) (between : List (List Between)) : (s.forwardEdge between).record = s.record := by
  rw [s.forwardEdge_eq]
  exact State.advances_keeps (P := fun t => t.record = s.record) _ (fun _ _ works same => works.keeps_record.trans same)
    (fun _ same => same) _ _ _ rfl

theorem State.warmRestart_record (s : State) : s.warmRestart.record = s.record := by simp [State.warmRestart]

/-- Settles O12: a write clamps what it touches and brings the agreements about, and nothing else changes the record. -/
theorem stepKeepsRecordInRange : Obligations.StepKeepsRecordInRange := by
  intro s t sound next
  refine step_keeps (P := fun x => x.record.inRange) (fun x y only held => ?_) (fun x held => held) ?_ sound next
  · rw [only .record (by simp)]
    exact held
  · intro c x y effect held
    cases effect with
    | works h => rwa [h.keeps_record]
    | edge _ between => rwa [x.forwardEdge_record]
    | write offset count data =>
      rw [State.answer_only _ _ _ .record (by simp), x.writeRecord_record]
      exact Record.write_inRange _ _ _ held
    | restart =>
      rw [State.answer_only _ _ _ .record (by simp), x.warmRestart_record]
      exact held
    | clearFlags | clearTallies => exact held
    | cold => exact Record.cold_inRange

end Sys2Proof.Machine

/-! PROOF. The belt counter through every step: accumulator below P, scan phase below S, the stall state that of the ring (R3, R11,
R13, R15, R17). -/

namespace Sys2Proof.Machine

theorem Record.pitch_pos {r : Record} (sound : r.inRange) : 0 < r.pitch :=
  Nat.lt_of_lt_of_le (by decide)
    (Record.wordAt_bounds (Record.holds_of_inRange sound (f := ⟨8, 2, .unsigned 100 20000⟩) (by decide))).1

theorem Record.scanPitch_pos {r : Record} (sound : r.inRange) : 0 < r.scanPitch :=
  (Record.byteAt_bounds_of_inRange sound (offset := 11) (lo := 1) (hi := 8) (by decide)).1

/-- A ring just pushed ends in the stamp pushed. -/
theorem pushStamp_getLast (ring : List Time) (stamp : Time) : (pushStamp ring stamp).getLast? = some stamp := by
  have kept : ring.length + 1 - 16 < (ring ++ [stamp]).length := by simp
  unfold pushStamp
  rw [Config.ringSize, List.getLast?_drop, if_neg (by omega), List.getLast?_concat]

theorem Belt.advance_motionSound (b : Belt) (stamp : Time) : (b.advance stamp).motionSound := by
  simp [Belt.motionSound, Belt.advance, pushStamp_getLast, Config.stallTime]

/-- The agreement of the belt counter is one of three parts. -/
theorem State.beltSound_of_same {s t : State} (mode : t.mode = s.mode) (record : t.record = s.record) (belt : t.belt = s.belt)
    (sound : s.beltSound) : t.beltSound := by
  unfold State.beltSound State.operating at sound ⊢
  rw [mode, record, belt]
  exact sound

theorem Move.keeps_belt {sights : Prop} {s t : State} (move : Move sights s t) (inRange : s.record.inRange)
    (sound : s.beltSound) : t.beltSound := by
  have same {parts : List Part} (only : s.changesOnly t parts) (apart : ∀ p ∈ [Part.mode, .record, .belt], p ∉ parts) :
      t.beltSound :=
    State.beltSound_of_same (only .mode (apart _ (by simp))) (only .record (apart _ (by simp)))
      (only .belt (apart _ (by simp))) sound
  cases move with
  | aside only => exact same only (by simp)
  | grant t f => exact same (s.granted_only t f.tClose _) (by simp)
  | enqueueUrgent u => exact same (s.enqueueUrgent_only u) (by simp)
  | enqueueSighting x => exact same (s.enqueueSighting_only x) (by simp)
  | placeStatus => exact same s.placeStatus_only (by simp)
  | begin => exact same s.begin_only (by simp)
  | breakAttempt a => exact same (s.breakAttempt_only a) (by simp)
  | hold n run =>
    have only := s.held_only n
    obtain ⟨accumulator, phase, motion⟩ := sound
    unfold State.beltSound
    rw [only .record (by simp), only .belt (by simp)]
    exact ⟨accumulator, fun _ => phase (by simp [State.operating, run]), motion⟩
  | release held =>
    obtain ⟨accumulator, phase, motion⟩ := sound
    exact ⟨accumulator, fun _ => phase (by simp [State.operating, held]), motion⟩
  | start =>
    obtain ⟨accumulator, -, motion⟩ := sound
    exact ⟨accumulator, fun _ => Record.scanPitch_pos inRange, motion⟩
  | phase n below =>
    obtain ⟨accumulator, -, motion⟩ := sound
    refine ⟨accumulator, fun _ => ?_, motion⟩
    rcases below with below | rfl
    · exact below
    · exact Record.scanPitch_pos inRange
  | stop =>
    obtain ⟨accumulator, phase, -⟩ := sound
    exact ⟨accumulator, phase, rfl⟩
  | _ => exact State.beltSound_of_same (s := s) rfl rfl rfl sound

theorem Works.keeps_belt {sights : Prop} {s t : State} (works : Works sights s t) (inRange : s.record.inRange)
    (sound : s.beltSound) : t.beltSound := by
  have both := works.keeps (P := fun x => x.record.inRange ∧ x.beltSound)
    (fun x y move ⟨range, held⟩ => ⟨move.keeps_record ▸ range, move.keeps_belt range held⟩) ⟨inRange, sound⟩
  exact both.2

theorem State.forwardEdge_beltSound (s : State) (between : List (List Between)) (inRange : s.record.inRange)
    (sound : s.beltSound) : (s.forwardEdge between).beltSound := by
  have gained : s.gained.beltSound := ⟨Nat.mod_lt _ (Record.pitch_pos inRange), sound.2⟩
  rw [s.forwardEdge_eq]
  refine (State.advances_keeps (P := fun x => x.record.inRange ∧ x.beltSound) s.belt.timebase (fun x y works ⟨range, held⟩ => ?_)
    (fun x ⟨range, held⟩ => ?_) s.edgeUnits s.gained between ⟨inRange, gained⟩).2
  · exact ⟨works.keeps_record ▸ range, works.keeps_belt range held⟩
  · obtain ⟨accumulator, phase, -⟩ := held
    exact ⟨range, accumulator, phase, x.belt.advance_motionSound _⟩

/-- Under a changed P the accumulator starts anew when it no longer lies below (R5). -/
theorem Belt.repitch_accumulator (b : Belt) {old new : Record} (below : b.accumulator < old.pitch) (positive : 0 < new.pitch) :
    (b.repitch old new).accumulator < new.pitch := by
  unfold Belt.repitch
  split
  · exact positive
  next kept =>
    by_cases same : old.pitch = new.pitch
    · exact same ▸ below
    · exact Nat.lt_of_not_le fun more => kept ⟨same, more⟩

theorem State.writeRecord_beltSound (s : State) (offset : Nat) (data : List Byte) (inRange : s.record.inRange)
    (setup : s.mode = .setup) (sound : s.beltSound) : (s.writeRecord offset data).beltSound := by
  have written := s.record.write_inRange offset data inRange
  refine (s.writeRecord_works offset data).keeps_belt written ?_
  obtain ⟨accumulator, -, motion⟩ := sound
  refine ⟨s.belt.repitch_accumulator accumulator (Record.pitch_pos written), fun operating => ?_, ?_⟩
  · simp [State.operating, setup] at operating
  · obtain ⟨n, pitched, -⟩ := s.belt.repitch_eq s.record (s.record.write offset data)
    rw [pitched]
    exact motion

theorem State.warmRestart_beltSound (s : State) (sound : s.beltSound) : s.warmRestart.beltSound := by
  have belt : s.warmRestart.belt = s.belt := by simp [State.warmRestart]
  obtain ⟨accumulator, -, motion⟩ := sound
  unfold State.beltSound
  rw [belt, s.warmRestart_record]
  exact ⟨accumulator, fun operating => by simp [State.warmRestart, State.operating] at operating, motion⟩

/-- Settles O13: an edge reduces the accumulator by P, a record in range has P and S positive, and an advance sets the stall due
time with the ring. -/
theorem stepKeepsBeltCounter : Obligations.StepKeepsBeltCounter := by
  intro s t inRange sound next
  refine (step_keeps (P := fun x => x.record.inRange ∧ x.beltSound) (fun x y only ⟨range, held⟩ => ?_)
    (fun x held => held) ?_ ⟨inRange, sound⟩ next).2
  · have record := only .record (by simp)
    exact ⟨record ▸ range, State.beltSound_of_same (only .mode (by simp)) record (only .belt (by simp)) held⟩
  · rintro c x y effect ⟨range, held⟩
    have answered (z : State) (status : PortStatus) (rest : List Byte) (both : z.record.inRange ∧ z.beltSound) :
        (z.answer status rest).record.inRange ∧ (z.answer status rest).beltSound :=
      ⟨both.1, State.beltSound_of_same (s := z) rfl rfl rfl both.2⟩
    cases effect with
    | works h => exact ⟨h.keeps_record ▸ range, h.keeps_belt range held⟩
    | edge _ between => exact ⟨x.forwardEdge_record between ▸ range, x.forwardEdge_beltSound between range held⟩
    | write offset count data _ setup =>
      refine answered _ _ _ ⟨?_, x.writeRecord_beltSound _ _ range setup held⟩
      exact x.writeRecord_record _ _ ▸ x.record.write_inRange _ _ range
    | restart =>
      refine answered _ _ _ ⟨?_, x.warmRestart_beltSound held⟩
      rw [x.warmRestart_record]
      exact range
    | clearFlags | clearTallies => exact ⟨range, held⟩
    | cold => exact ⟨Record.cold_inRange, Record.pitch_pos Record.cold_inRange, nofun, rfl⟩

end Sys2Proof.Machine

/-! PROOF. The track table through every step: each track once and fitting its state (R87, R105, R117, R142, R144), and the order by
the distance to A_lead, then by age (R87). -/

namespace Sys2Proof.Machine

variable {sights : Prop}

/-! ## One track of a sound table -/

theorem State.eq_of_made {s : State} (sound : s.tableSound) {t u : Track} (ht : t ∈ s.tracks) (hu : u ∈ s.tracks)
    (same : u.made = t.made) : u = t := List.inj_on_of_nodup_map sound.1 hu ht same

/-- In a sound table an update changes the one track of its number. -/
theorem State.mem_updateTrack {s : State} (sound : s.tableSound) {t : Track} (listed : t ∈ s.tracks) (f : Track → Track)
    {v : Track} (updated : v ∈ (s.updateTrack t.made f).tracks) : v = f t ∨ v ∈ s.tracks := by
  rw [State.updateTrack_tracks, List.mem_map] at updated
  obtain ⟨u, hu, rfl⟩ := updated
  split
  next same => exact .inl (congrArg f (State.eq_of_made sound listed hu same))
  · exact .inr hu

/-- An update that keeps a value of its track keeps it in the whole table. -/
theorem State.map_updateTrack {α : Type} {s : State} (sound : s.tableSound) {t : Track} (listed : t ∈ s.tracks)
    (f : Track → Track) (g : Track → α) (same : g (f t) = g t) : (s.updateTrack t.made f).tracks.map g = s.tracks.map g := by
  rw [State.updateTrack_tracks, List.map_map]
  refine List.map_congr_left fun u hu => ?_
  dsimp only [Function.comp]
  split
  next is => rw [State.eq_of_made sound listed hu is, same]
  · rfl

theorem countP_or_le {α : Type} (p q : α → Bool) (xs : List α) :
    xs.countP (fun x => p x || q x) ≤ xs.countP p + xs.countP q := by
  induction xs with
  | nil => exact Nat.le_refl _
  | cons x rest ih =>
    simp only [List.countP_cons]
    cases p x <;> cases q x <;> simp <;> omega

/-- One track changed adds at most one to those in flight. -/
theorem State.updateTrack_flights {s : State} (sound : s.tableSound) {t : Track} (listed : t ∈ s.tracks) (f : Track → Track)
    (flies : (f t).inFlight → t.inFlight ∨ s.flights < 24) : (s.updateTrack t.made f).flights ≤ 24 := by
  obtain ⟨nodup, -, few⟩ := id sound
  unfold State.flights
  rw [State.updateTrack_tracks, List.countP_map]
  by_cases already : (f t).inFlight → t.inFlight
  · refine (List.countP_mono_left fun u hu flying => ?_).trans few
    dsimp only [Function.comp] at flying
    split at flying
    next is =>
      rw [State.eq_of_made sound listed hu is] at flying ⊢
      exact already flying
    · exact flying
  · rw [Classical.not_imp] at already
    have room : s.flights < 24 := (flies already.1).resolve_left already.2
    have once : s.tracks.countP (fun u => u.made == t.made) ≤ 1 := by
      have count := List.nodup_iff_count_le_one.mp nodup t.made
      rwa [List.count, List.countP_map] at count
    refine (List.countP_mono_left (q := fun u => u.inFlight || u.made == t.made) fun u hu flying => ?_).trans ?_
    · dsimp only [Function.comp] at flying
      split at flying
      next is => simp [is]
      · simp [flying]
    · exact (countP_or_le _ _ _).trans (Nat.le_trans (Nat.add_le_add_left once _) room)

/-- Soundness speaks of the tracks and the next number alone. -/
theorem State.tableSound_of_same {s t : State} (tracks : t.tracks = s.tracks) (next : t.nextMade = s.nextMade)
    (sound : s.tableSound) : t.tableSound := by
  unfold State.tableSound State.flights at sound ⊢
  rw [tracks, next]
  exact sound

/-- A table of fewer tracks is sound. -/
theorem State.tableSound_of_sublist {s t : State} (tracks : t.tracks.Sublist s.tracks) (next : t.nextMade = s.nextMade)
    (sound : s.tableSound) : t.tableSound := by
  obtain ⟨nodup, each, few⟩ := sound
  refine ⟨nodup.sublist (tracks.map _), fun u hu => ?_, tracks.countP_le.trans few⟩
  rw [next]
  exact each u (tracks.subset hu)

/-- A track changed keeps the table sound when it still fits its state. -/
theorem State.updateTrack_tableSound {s : State} (sound : s.tableSound) {t : Track} (listed : t ∈ s.tracks) (f : Track → Track)
    (made : (f t).made = t.made) (fits : t.fitsState → (f t).fitsState)
    (flies : (f t).inFlight → t.inFlight ∨ s.flights < 24) : (s.updateTrack t.made f).tableSound := by
  refine ⟨?_, fun v updated => ?_, State.updateTrack_flights sound listed f flies⟩
  · rw [State.map_updateTrack sound listed f Track.made made]
    obtain ⟨nodup, -⟩ := sound
    exact nodup
  · obtain ⟨-, each, -⟩ := id sound
    rcases State.mem_updateTrack sound listed f updated with rfl | hv
    · obtain ⟨below, fit⟩ := each t listed
      exact ⟨made ▸ below, fits fit⟩
    · exact each v hv

/-! ## A track put into its place -/

/-- A track of a new number put into a sound table of tracks not in flight or fewer than the others leaves it sound. -/
theorem placeTrack_sound {s : State} (sound : s.tableSound) (kept : List Track) (sub : kept.Sublist s.tracks) (x : Track)
    (next : Nat) (fresh : x.made ∉ kept.map Track.made) (below : x.made < next) (more : s.nextMade ≤ next)
    (fits : x.fitsState) (rests : x.inFlight = false) (current : Count) :
    State.tableSound { s with tracks := placeTrack current x kept, nextMade := next } := by
  obtain ⟨nodup, each, few⟩ := sound
  have perm := placeTrack_perm current x kept
  refine ⟨?_, fun u hu => ?_, ?_⟩
  · rw [(perm.map Track.made).nodup_iff]
    exact List.nodup_cons.mpr ⟨fresh, nodup.sublist (sub.map _)⟩
  · rcases List.mem_cons.mp (perm.mem_iff.mp hu) with rfl | hu
    · exact ⟨below, fits⟩
    · obtain ⟨less, fit⟩ := each u (sub.subset hu)
      exact ⟨Nat.lt_of_lt_of_le less more, fit⟩
  · unfold State.flights
    rw [perm.countP_eq, List.countP_cons_of_neg (by simp [rests])]
    exact sub.countP_le.trans few

theorem foldl_absorb_keeps (xs : List Track) : ∀ t : Track,
    (xs.foldl Track.absorb t).made = t.made ∧ (xs.foldl Track.absorb t).state = t.state
      ∧ (xs.foldl Track.absorb t).cls = t.cls ∧ (xs.foldl Track.absorb t).degraded = t.degraded
      ∧ (xs.foldl Track.absorb t).oversize = t.oversize ∧ (xs.foldl Track.absorb t).trimmed = t.trimmed
      ∧ (xs.foldl Track.absorb t).double = t.double ∧ (xs.foldl Track.absorb t).short = t.short
      ∧ (xs.foldl Track.absorb t).flight = t.flight ∧ (xs.foldl Track.absorb t).valveSet = t.valveSet := by
  induction xs with
  | nil => exact fun t => ⟨rfl, rfl, rfl, rfl, rfl, rfl, rfl, rfl, rfl, rfl⟩
  | cons x rest ih => exact fun t => ih (t.absorb x)

theorem joined_made (t : Track) (others : List Track) (x : Track) : (joined t others x).made = t.made :=
  (foldl_absorb_keeps others (t.absorb x)).1

theorem joined_state (t : Track) (others : List Track) (x : Track) : (joined t others x).state = t.state :=
  (foldl_absorb_keeps others (t.absorb x)).2.1

/-- A COLLECTING track joined fits its state, whatever mark it takes. -/
theorem joined_fitsState {t : Track} (others : List Track) (x : Track) (collecting : t.state = .collecting)
    (fits : t.fitsState) : (joined t others x).fitsState := by
  obtain ⟨-, state, cls, degraded, oversize, trimmed, double, short, flight, valveSet⟩ :=
    foldl_absorb_keeps others (t.absorb x)
  unfold Track.fitsState Track.inFlight at fits ⊢
  simp only [joined, state, cls, degraded, oversize, trimmed, double, short, flight, valveSet]
  simp only [Track.absorb, collecting] at fits ⊢
  obtain ⟨noFlight, noSet, -, others⟩ := fits
  exact ⟨noFlight, noSet, by simp, others⟩

/-! ## Soundness through every step -/

theorem Move.keeps_table {s t : State} (move : Move sights s t) (sound : s.tableSound) : t.tableSound := by
  have same {parts : List Part} (only : s.changesOnly t parts) (apart : ∀ p ∈ [Part.tracks, .nextMade], p ∉ parts) :
      t.tableSound :=
    State.tableSound_of_same (only .tracks (apart _ (by simp))) (only .nextMade (apart _ (by simp))) sound
  cases move with
  | aside only => exact same only (by simp)
  | enqueueUrgent u => exact same (s.enqueueUrgent_only u) (by simp)
  | enqueueSighting x => exact same (s.enqueueSighting_only x) (by simp)
  | placeStatus => exact same s.placeStatus_only (by simp)
  | begin => exact same s.begin_only (by simp)
  | breakAttempt a => exact same (s.breakAttempt_only a) (by simp)
  | hold n => exact same (s.held_only n) (by simp)
  | remove id => exact State.tableSound_of_sublist List.filter_sublist rfl sound
  | change t f listed place fits flies => exact State.updateTrack_tableSound sound listed f place.1 fits flies
  | grant t f listed launched flight =>
    have only := s.serveValves_only t f.tClose
    have tracks := only .tracks (by simp)
    have served : (s.serveValves t f.tClose).tableSound :=
      State.tableSound_of_same tracks (only .nextMade (by simp)) sound
    refine State.updateTrack_tableSound served (by rwa [tracks]) _ rfl ?_ fun _ => .inl (by simp [Track.inFlight, launched])
    rintro ⟨-, -, mark, -, -, -, short⟩
    refine ⟨by simp [flight, Track.inFlight], by simp, fun marked => ?_, by simp, by simp [Track.inFlight], by simp, short⟩
    exact absurd ((mark marked).symm.trans launched) (by simp)
  | make x room next fits collecting =>
    refine placeTrack_sound sound s.tracks (List.Sublist.refl _) x _ ?_ (next ▸ Nat.lt_succ_self _) (Nat.le_succ _) fits
      (by simp [Track.inFlight, collecting]) _
    rw [List.mem_map]
    rintro ⟨u, hu, made⟩
    obtain ⟨-, each, -⟩ := sound
    exact absurd (each u hu).1 (by simp [made, next])
  | join t others x listed collecting =>
    obtain ⟨-, each, -⟩ := id sound
    obtain ⟨below, fits⟩ := each t listed
    refine placeTrack_sound sound _ List.filter_sublist _ s.nextMade ?_ ?_ (Nat.le_refl _)
      (joined_fitsState others x collecting fits) (by simp [Track.inFlight, joined_state, collecting]) _
    · rw [joined_made, List.mem_map]
      rintro ⟨u, hu, made⟩
      simp [made] at hu
    · rwa [joined_made]
  | _ => exact State.tableSound_of_same (s := s) rfl rfl sound

theorem Works.keeps_table {s t : State} (works : Works sights s t) (sound : s.tableSound) : t.tableSound :=
  works.keeps (fun _ _ => Move.keeps_table) sound

/-- A warm restart clears the table; the numbers go on. -/
theorem State.warmRestart_table (s : State) : s.warmRestart.tableSound := by
  simp [State.warmRestart, State.tableSound, State.flights]

theorem step_keeps_tableSound {s t : State} (sound : s.tableSound) (next : step s = .next t) : t.tableSound := by
  have answered (z : State) (status : PortStatus) (rest : List Byte) (held : z.tableSound) :
      (z.answer status rest).tableSound := State.tableSound_of_same (s := z) rfl rfl held
  refine step_keeps (P := State.tableSound) (fun x y only => State.tableSound_of_same (only .tracks (by simp)) (only .nextMade (by simp)))
    (fun x held => held) ?_ sound next
  intro c x y effect held
  cases effect with
  | works h => exact h.keeps_table held
  | edge _ between =>
    rw [x.forwardEdge_eq]
    exact State.advances_keeps (P := State.tableSound) x.belt.timebase (fun _ _ => Works.keeps_table) (fun _ kept => kept)
      x.edgeUnits x.gained between held
  | write offset count data =>
    exact answered _ _ _ ((x.writeRecord_works _ _).keeps_table (State.tableSound_of_same (s := x) rfl rfl held))
  | restart => exact answered _ _ _ x.warmRestart_table
  | clearFlags | clearTallies => exact held
  | cold => exact ⟨List.nodup_nil, fun u none => absurd none List.not_mem_nil, Nat.zero_le _⟩

/-! ## The order of the table -/

/-- Where a track stands: by its A_lead and its order of making. -/
def Track.place (t : Track) : Count × Nat := (t.aLead, t.made)

/-- One place stands before another, seen from a count (R87). -/
def placeBefore (current : Count) (p q : Count × Nat) : Prop :=
  distance current p.1 < distance current q.1 ∨ (p.1 = q.1 ∧ p.2 < q.2)

theorem State.tableOrdered_iff (s : State) :
    s.tableOrdered ↔ (s.tracks.map Track.place).Pairwise (placeBefore s.belt.count) := by
  rw [List.pairwise_map]
  rfl

/-- Fewer places seen from the same count stay in order. -/
theorem State.tableOrdered_of_sublist {s t : State} (places : (t.tracks.map Track.place).Sublist (s.tracks.map Track.place))
    (count : t.belt.count = s.belt.count) (ordered : s.tableOrdered) : t.tableOrdered := by
  rw [State.tableOrdered_iff] at ordered ⊢
  rw [count]
  exact ordered.sublist places

/-- A move leaves the count, and of the places some; or a sighting puts a track into its place. -/
theorem Move.places {s t : State} (move : Move sights s t) (sound : s.tableSound) :
    t.belt.count = s.belt.count ∧
      ((t.tracks.map Track.place).Sublist (s.tracks.map Track.place)
        ∨ (sights ∧ ∃ x kept, t.tracks = placeTrack s.belt.count x kept ∧ kept.Sublist s.tracks ∧ ∀ u ∈ kept, u.made ≠ x.made)) := by
  have same {parts : List Part} (only : s.changesOnly t parts) (apart : ∀ p ∈ [Part.tracks, .belt], p ∉ parts) :
      t.belt.count = s.belt.count ∧
      ((t.tracks.map Track.place).Sublist (s.tracks.map Track.place)
        ∨ (sights ∧ ∃ x kept, t.tracks = placeTrack s.belt.count x kept ∧ kept.Sublist s.tracks ∧ ∀ u ∈ kept, u.made ≠ x.made)) := by
    rw [only .tracks (apart _ (by simp)), only .belt (apart _ (by simp))]
    exact ⟨rfl, .inl (List.Sublist.refl _)⟩
  cases move with
  | aside only => exact same only (by simp)
  | enqueueUrgent u => exact same (s.enqueueUrgent_only u) (by simp)
  | enqueueSighting x => exact same (s.enqueueSighting_only x) (by simp)
  | placeStatus => exact same s.placeStatus_only (by simp)
  | begin => exact same s.begin_only (by simp)
  | breakAttempt a => exact same (s.breakAttempt_only a) (by simp)
  | hold n => exact same (s.held_only n) (by simp)
  | remove id => exact ⟨rfl, .inl (List.filter_sublist.map _)⟩
  | change t f listed place =>
    have kept : (f t).place = t.place := Prod.ext place.2 place.1
    exact ⟨rfl, .inl ((State.map_updateTrack sound listed f Track.place kept) ▸ List.Sublist.refl _)⟩
  | grant t f listed =>
    have only := s.serveValves_only t f.tClose
    have tracks := only .tracks (by simp)
    have served : (s.serveValves t f.tClose).tableSound :=
      State.tableSound_of_same tracks (only .nextMade (by simp)) sound
    refine ⟨congrArg Belt.count (s.granted_only t f.tClose _ .belt (by simp)), .inl ?_⟩
    rw [State.map_updateTrack served (by rwa [tracks]) _ Track.place rfl, tracks]
  | make x _ next _ _ sighted =>
    refine ⟨rfl, .inr ⟨sighted, x, s.tracks, rfl, List.Sublist.refl _, fun u hu made => ?_⟩⟩
    obtain ⟨-, each, -⟩ := sound
    exact absurd (each u hu).1 (by simp [made, next])
  | join t others x _ _ sighted =>
    refine ⟨rfl, .inr ⟨sighted, _, _, rfl, List.filter_sublist, fun u hu made => ?_⟩⟩
    rw [joined_made] at made
    simp [made] at hu
  | _ => exact ⟨rfl, .inl (List.Sublist.refl _)⟩

/-- Without a sighting the places are some of those before, seen from the same count. -/
theorem Works.places {s t : State} (works : Works sights s t) (none : ¬ sights) (sound : s.tableSound) :
    (t.tracks.map Track.place).Sublist (s.tracks.map Track.place) ∧ t.belt.count = s.belt.count := by
  induction works with
  | refl => exact ⟨List.Sublist.refl _, rfl⟩
  | tail works last ih =>
    obtain ⟨count, sub⟩ := last.places (Works.keeps_table works sound)
    exact ⟨(sub.resolve_right fun sighted => none sighted.1).trans ih.1, count.trans ih.2⟩

/-- Two counts at one distance are one. -/
theorem distance_injective {w : Nat} {c a b : BitVec w} (same : distance c a = distance c b) : a = b := by
  have differences : b - c = a - c := (BitVec.eq_of_toInt_eq same).symm
  calc a = a - c + c := (BitVec.sub_add_cancel a c).symm
    _ = b - c + c := by rw [differences]
    _ = b := BitVec.sub_add_cancel b c

theorem placeBefore_trans {c : Count} {p q r : Count × Nat} (h : placeBefore c p q) (k : placeBefore c q r) :
    placeBefore c p r := by
  rcases h with near | ⟨same, older⟩ <;> rcases k with near' | ⟨same', older'⟩
  · exact .inl (Int.lt_trans near near')
  · exact .inl (same' ▸ near)
  · exact .inl (same ▸ near')
  · exact .inr ⟨same.trans same', Nat.lt_trans older older'⟩

theorem standsBefore_iff (c : Count) (t u : Track) : standsBefore c t u ↔ placeBefore c t.place u.place := by
  have same : distance c t.aLead = distance c u.aLead ↔ t.aLead = u.aLead := ⟨distance_injective, congrArg _⟩
  simp [standsBefore, placeBefore, Track.place, same]

/-- Of two tracks of different numbers one stands before the other. -/
theorem placeBefore_of_not_standsBefore {c : Count} {t u : Track} (later : standsBefore c t u = false)
    (other : u.made ≠ t.made) : placeBefore c u.place t.place := by
  have not := (standsBefore_iff c t u).not.mp (by simp [later])
  unfold placeBefore Track.place at *
  dsimp only at *
  by_cases same : u.aLead = t.aLead
  · simp only [same] at not ⊢
    simp at not ⊢
    omega
  · have apart : distance c u.aLead ≠ distance c t.aLead := mt distance_injective same
    exact .inl (by omega)

/-- A track put into a table in order, none of its number standing there, leaves it in order. -/
theorem placeTrack_ordered {current : Count} {x : Track} {ts : List Track} (fresh : ∀ u ∈ ts, u.made ≠ x.made)
    (ordered : (ts.map Track.place).Pairwise (placeBefore current)) :
    ((placeTrack current x ts).map Track.place).Pairwise (placeBefore current) := by
  obtain ⟨front, back, rfl, placed, before, after⟩ := placeTrack_splits current x ts
  rw [placed]
  simp only [List.map_append, List.map_cons, List.pairwise_append, List.pairwise_cons, List.mem_map, List.mem_cons] at ordered ⊢
  obtain ⟨frontOrdered, backOrdered, apart⟩ := ordered
  have behind : ∀ p, (∃ u ∈ back, u.place = p) → placeBefore current x.place p := by
    rintro p ⟨u, hu, rfl⟩
    cases back with
    | nil => exact absurd hu List.not_mem_nil
    | cons v rest =>
      have first := (standsBefore_iff current x v).mp (after v rfl)
      rcases List.mem_cons.mp hu with rfl | hu
      · exact first
      · rw [List.map_cons, List.pairwise_cons] at backOrdered
        exact placeBefore_trans first (backOrdered.1 _ (List.mem_map_of_mem hu))
  refine ⟨frontOrdered, ⟨behind, backOrdered⟩, ?_⟩
  rintro p ⟨u, hu, rfl⟩ q (rfl | later)
  · exact placeBefore_of_not_standsBefore (before u hu) (fresh u (List.mem_append_left back hu))
  · exact apart _ ⟨u, hu, rfl⟩ q later

theorem Move.keeps_order {s t : State} (move : Move sights s t) (sound : s.tableSound) (ordered : s.tableOrdered) :
    t.tableOrdered := by
  obtain ⟨count, sub | ⟨-, x, kept, placed, sub, fresh⟩⟩ := move.places sound
  · exact State.tableOrdered_of_sublist sub count ordered
  · rw [State.tableOrdered_iff] at ordered ⊢
    rw [placed, count]
    exact placeTrack_ordered fresh (ordered.sublist (sub.map _))

theorem Works.keeps_order {s t : State} (works : Works sights s t) (sound : s.tableSound) (ordered : s.tableOrdered) :
    t.tableOrdered := by
  have both := works.keeps (P := fun x => x.tableSound ∧ x.tableOrdered)
    (fun x y move ⟨held, order⟩ => ⟨move.keeps_table held, move.keeps_order held order⟩) ⟨sound, ordered⟩
  exact both.2

/-! ## The order through an edge -/

/-- A count on, the distance to a count that is not at the end of the range is one less (R7). -/
theorem distance_succ {c a : Count} (inside : -8388608 < distance c a) : distance (c + 1) a = distance c a - 1 := by
  unfold distance at *
  have split : a - (c + 1) = (a - c) - 1 := by
    rw [← BitVec.sub_sub]
  rw [split, BitVec.toInt_sub, show (1 : BitVec 24).toInt = 1 from rfl]
  have := BitVec.toInt_lt (x := a - c)
  refine Int.bmod_eq_of_le ?_ ?_ <;> omega

/-- The table is in order and no distance passes the end of its range within `n` advances. -/
def State.orderedFor (n : Nat) (s : State) : Prop :=
  s.tableSound ∧ s.tableOrdered ∧ ∀ u ∈ s.tracks, (n : Int) - 8388608 ≤ distance s.belt.count u.aLead

/-- Without a sighting the tracks left are some of those before. -/
theorem Works.keeps_orderedFor {n : Nat} {s t : State} (works : Works sights s t) (none : ¬ sights) (held : s.orderedFor n) :
    t.orderedFor n := by
  obtain ⟨sound, ordered, near⟩ := held
  obtain ⟨sub, count⟩ := works.places none sound
  refine ⟨works.keeps_table sound, State.tableOrdered_of_sublist sub count ordered, fun u hu => ?_⟩
  obtain ⟨v, hv, place⟩ := List.mem_map.mp (sub.subset (List.mem_map_of_mem hu))
  have lead : v.aLead = u.aLead := congrArg Prod.fst place
  rw [count, ← lead]
  exact near v hv

theorem State.orderedFor_advance {n : Nat} {s : State} (held : s.orderedFor (n + 1)) (stamp : Time) :
    (s.advance stamp).orderedFor n := by
  refine (s.advance_works (sights := False) stamp).keeps_orderedFor id ?_
  obtain ⟨sound, ordered, near⟩ := held
  have moved : ∀ u ∈ s.tracks, distance (s.belt.count + 1) u.aLead = distance s.belt.count u.aLead - 1 := fun u hu => by
    have := near u hu
    exact distance_succ (by omega)
  refine ⟨sound, List.Pairwise.imp_of_mem (fun {u v} hu hv before => ?_) ordered, fun u hu => ?_⟩
  · dsimp only [Belt.advance]
    rw [moved u hu, moved v hv]
    exact before.imp_left fun less => Int.sub_lt_sub_right less 1
  · have := near u hu
    dsimp only [Belt.advance]
    rw [moved u hu]
    omega

theorem State.advances_ordered (stamp : Time) (n : Nat) : ∀ (s : State) (between : List (List Between)),
    (∀ gap ∈ between, ∀ e ∈ gap, ¬ bringsSighting e) → s.orderedFor n → (s.advances stamp n between).tableOrdered := by
  induction n with
  | zero => exact fun s _ _ ⟨_, ordered, _⟩ => ordered
  | succ n ih =>
    intro s between calm held
    have advanced := State.orderedFor_advance held stamp
    match between with
    | [] => exact ih _ _ calm advanced
    | gap :: rest =>
      obtain ⟨quiet, later⟩ := List.forall_mem_cons.mp calm
      refine ih _ rest later ?_
      split
      · exact advanced
      · exact (State.meets_works gap _).keeps_orderedFor (fun ⟨e, he, brings⟩ => quiet e he brings) advanced

theorem State.forwardEdge_ordered (s : State) (between : List (List Between))
    (calm : ∀ gap ∈ between, .sightTaken ∉ gap ∧ .localSightingTaken ∉ gap) (sound : s.tableSound) (ordered : s.tableOrdered)
    (near : ∀ u ∈ s.tracks, (s.edgeUnits : Int) - 8388608 ≤ distance s.belt.count u.aLead) :
    (s.forwardEdge between).tableOrdered := by
  rw [s.forwardEdge_eq]
  refine s.gained.advances_ordered s.belt.timebase s.edgeUnits between (fun gap hgap e he => ?_) ⟨sound, ordered, near⟩
  rintro (rfl | rfl)
  · exact (calm gap hgap).1 he
  · exact (calm gap hgap).2 he

/-! ## Both through every step -/

theorem State.tableOrdered_of_same {s t : State} (tracks : t.tracks = s.tracks) (count : t.belt.count = s.belt.count)
    (ordered : s.tableOrdered) : t.tableOrdered := by
  unfold State.tableOrdered at ordered ⊢
  rw [tracks, count]
  exact ordered

theorem Effect.keeps_order {c : Instr} {s t : State} (effect : Effect c s t) (sound : s.tableSound) (ordered : s.tableOrdered)
    (calm : ∀ r f b, c = .encoderEdge r f b → (∀ gap ∈ b, .sightTaken ∉ gap ∧ .localSightingTaken ∉ gap)
      ∧ ∀ u ∈ s.tracks, (s.edgeUnits : Int) - 8388608 ≤ distance s.belt.count u.aLead) : t.tableOrdered := by
  cases effect with
  | works h => exact h.keeps_order sound ordered
  | edge rising between is =>
    obtain ⟨quiet, near⟩ := calm _ _ _ is
    exact s.forwardEdge_ordered between quiet sound ordered near
  | write offset count data =>
    obtain ⟨n, pitched, -⟩ := s.belt.repitch_eq s.record (s.record.write offset.toNat (data.take count.toNat))
    have written : (s.writeRecord offset.toNat (data.take count.toNat)).tableOrdered := by
      refine (s.writeRecord_works offset.toNat _).keeps_order (State.tableSound_of_same (s := s) rfl rfl sound)
        (State.tableOrdered_of_same (s := s) rfl ?_ ordered)
      rw [pitched]
    exact State.tableOrdered_of_same (State.answer_only _ _ _ .tracks (by simp))
      (congrArg Belt.count (State.answer_only _ _ _ .belt (by simp))) written
  | restart =>
    have none : (s.warmRestart.answer .ok []).tracks = [] := by simp [State.warmRestart]
    unfold State.tableOrdered
    rw [none]
    exact .nil
  | clearFlags | clearTallies => exact ordered
  | cold => exact .nil

/-- Settles O7: a move keeps each track fitting its state, a sighting puts its track into its place, and an advance shortens every
distance by one. -/
theorem stepKeepsTrackTable : Obligations.StepKeepsTrackTable := by
  intro s t sound next
  refine ⟨step_keeps_tableSound sound next, fun ordered calm => ?_⟩
  match queue : s.pending with
  | [] =>
    rw [step_idle s queue] at next
    cases next
    obtain tick | only := s.idle_effect
    · rw [tick]
      exact ordered
    · exact State.tableOrdered_of_same (only .tracks (by simp)) (congrArg Belt.count (only .belt (by simp))) ordered
  | c :: rest =>
    rw [step_front s c rest queue] at next
    exact (exec_effect next).keeps_order sound ordered fun r f b is => calm r f b rest (is ▸ queue)

end Sys2Proof.Machine

/-! PROOF. The valve bank and the line hold through every step (R78, R79, R151, R154, R165): valves open in RUN alone, in the window,
for at most the maximum open time, and at most B of them. -/

namespace Sys2Proof.Machine

variable {sights : Prop}

/-! ## The open count -/

theorem Vector.toList_eq_map_finRange {α : Type} {n : Nat} (v : Vector α n) :
    v.toList = (List.finRange n).map fun i => v[i] := by
  refine List.ext_getElem (by simp) fun i _ _ => ?_
  simp

/-- The open records counted by their numbers. -/
theorem State.openCount_eq (s : State) : s.openCount = (List.finRange 32).countP fun i => (s.valves[i]).isOpen := by
  rw [State.openCount, Vector.toList_eq_map_finRange, List.countP_map]
  rfl

theorem State.openCount_of_valves {s t : State} (valves : t.valves = s.valves) : t.openCount = s.openCount := by
  rw [State.openCount, valves, State.openCount]

/-- No valve is open exactly when the open count is 0. -/
theorem State.openCount_eq_zero_iff (s : State) : s.openCount = 0 ↔ ∀ i : Fin 32, (s.valves[i]).isOpen = false := by
  rw [s.openCount_eq, List.countP_eq_zero]
  simp

/-- Valves of which fewer are open. -/
theorem State.openCount_le {s t : State} (fewer : ∀ i : Fin 32, (t.valves[i]).isOpen → (s.valves[i]).isOpen) :
    t.openCount ≤ s.openCount := by
  rw [s.openCount_eq, t.openCount_eq]
  exact List.countP_mono_left fun i _ => fewer i

theorem Valve.bounded_of_not_isOpen {v : Valve} (rests : v.isOpen = false) (inWindow : Bool) (maxOpen : Nat) :
    v.bounded inWindow maxOpen := by
  cases v with
  | opened => cases rests
  | closed => rfl
  | resting => rfl

theorem closeValve_isOpen (now : Time) (recovery : Nat) (v : Valve) : (closeValve now recovery v).isOpen = false := by
  cases v <;> rfl

theorem State.closeAllValves_valves (s : State) (i : Fin 32) :
    (s.closeAllValves.valves[i]) = closeValve s.belt.timebase s.record.recovery s.valves[i] := by
  simp [State.closeAllValves]

/-! ## The invariant -/

/-- Every open valve lies in the window and closes within the maximum open time of its opening (R154, R165). -/
def State.valvesBounded (s : State) : Prop :=
  ∀ i : Fin 32, (s.valves[i]).bounded (decide (i.val < s.record.laneCount)) s.record.maxOpen

/-- Line hold and valve bank together. -/
def State.bankSound (s : State) : Prop :=
  (s.mode ≠ .run → s.openCount = 0) ∧ (s.mode = .held → ∀ t ∈ s.tracks, t.state ≠ .firing)
    ∧ (s.mode = .setup → s.tracks = []) ∧ s.valvesBounded ∧ s.openCount ≤ s.record.budget
    ∧ s.record.budgetLow ≤ s.record.budget

theorem State.bankSound_iff (s : State) : s.bankSound ↔ s.lineHeld ∧ s.valvesSound := by
  unfold State.bankSound State.valvesBounded
  constructor
  · rintro ⟨open_, firing, setup, bounded, budget, low⟩
    exact ⟨⟨open_, firing, setup⟩, open_, setup, bounded, budget, low⟩
  · rintro ⟨⟨open_, firing, setup⟩, -, -, bounded, budget, low⟩
    exact ⟨open_, firing, setup, bounded, budget, low⟩

/-- It speaks of four parts. -/
theorem State.bankSound_of_same {s t : State} (mode : t.mode = s.mode) (record : t.record = s.record)
    (tracks : t.tracks = s.tracks) (valves : t.valves = s.valves) (sound : s.bankSound) : t.bankSound := by
  unfold State.bankSound State.valvesBounded State.openCount at sound ⊢
  rw [mode, record, tracks, valves]
  exact sound

/-- Tracks that bring no FIRING one into HELD and none into SETUP. -/
theorem State.bankSound_of_tracks {s t : State} {parts : List Part} (only : s.changesOnly t parts)
    (apart : ∀ p ∈ [Part.mode, .record, .valves], p ∉ parts)
    (firing : s.mode = .held → (∀ u ∈ s.tracks, u.state ≠ .firing) → ∀ u ∈ t.tracks, u.state ≠ .firing)
    (setup : s.mode = .setup → s.tracks = [] → t.tracks = []) (sound : s.bankSound) : t.bankSound := by
  have mode := only .mode (apart _ (by simp))
  have valves := only .valves (apart _ (by simp))
  obtain ⟨none, noFiring, empty, bounded, few, low⟩ := sound
  unfold State.bankSound State.valvesBounded
  rw [mode, only .record (apart _ (by simp)), valves, State.openCount_of_valves valves]
  exact ⟨none, fun held => firing held (noFiring held), fun rests => setup rests (empty rests), bounded, few, low⟩

/-- With every valve at rest, tracks fitting the station state are enough. -/
theorem State.bankSound_of_rest {t : State} (rests : ∀ i : Fin 32, (t.valves[i]).isOpen = false)
    (firing : t.mode = .held → ∀ u ∈ t.tracks, u.state ≠ .firing) (setup : t.mode = .setup → t.tracks = [])
    (low : t.record.budgetLow ≤ t.record.budget) : t.bankSound := by
  have none := t.openCount_eq_zero_iff.mpr rests
  exact ⟨fun _ => none, firing, setup, fun i => Valve.bounded_of_not_isOpen (rests i) _ _, none ▸ Nat.zero_le _, low⟩

/-! ## The grant (R153, R154) -/

/-- A granted request finds the station in RUN, and its new valves within the budget in force. -/
theorem State.of_granted {s : State} {t : Track} (granted : s.refusal t = none) :
    s.mode ≠ .held ∧ s.openCount + s.newCount (s.record.firingSet t) ≤ s.budgetInForce := by
  unfold State.refusal at granted
  dsimp only at granted
  split_ifs at granted with held chute recover air
  exact ⟨held, Nat.le_of_not_lt air⟩

theorem Record.maxOpen_lt (r : Record) : r.maxOpen < 65536 := r.wordAt_lt 83

theorem earlier_cases {w : Nat} (a b : BitVec w) : (earlier a b = a ∧ atOrBefore a b) ∨ earlier a b = b := by
  unfold earlier
  split
  next before => exact .inl ⟨rfl, before⟩
  · exact .inr rfl

theorem later_cases {w : Nat} (a b : BitVec w) : (later a b = b ∧ atOrBefore a b) ∨ later a b = a := by
  unfold later
  split
  next before => exact .inl ⟨rfl, before⟩
  · exact .inr rfl

/-- A record served and still open closes within the maximum open time of its opening (R154). -/
theorem serveValve_bounded {now tClose : Time} {recovery maxOpen : Nat} (short : maxOpen < 65536) {v : Valve}
    {inWindow : Bool} (bounded : v.bounded true maxOpen) (window : inWindow = true) :
    (settleValve now recovery (serveValve now tClose maxOpen v)).bounded inWindow maxOpen := by
  subst window
  cases v with
  | resting => rfl
  | closed =>
    simp only [serveValve, settleValve]
    split
    · rfl
    next later =>
      simp only [atOrBefore, decide_eq_true_eq, Nat.not_lt] at later
      obtain ⟨is, before⟩ | is := earlier_cases tClose (now + BitVec.ofNat 32 maxOpen)
      · simp only [atOrBefore, decide_eq_true_eq] at before
        rw [is] at later
        simp only [Valve.bounded, is, Bool.true_and, decide_eq_true_eq]
        bv_omega
      · simp only [Valve.bounded, is, Bool.true_and, decide_eq_true_eq]
        bv_omega
  | opened openedAt closeAt =>
    simp only [Valve.bounded, Bool.true_and, decide_eq_true_eq] at bounded
    simp only [serveValve, settleValve]
    split
    · rfl
    · simp only [Valve.bounded, Bool.true_and, decide_eq_true_eq]
      obtain ⟨is, after⟩ | is := later_cases closeAt (earlier tClose (openedAt + BitVec.ofNat 32 maxOpen))
      · rw [is]
        obtain ⟨cap, before⟩ | cap := earlier_cases tClose (openedAt + BitVec.ofNat 32 maxOpen)
        · rw [cap] at after ⊢
          simp only [atOrBefore, decide_eq_true_eq] at before after
          bv_omega
        · rw [cap]
          bv_omega
      · rw [is]
        exact bounded

theorem Record.inWindow_of_fires {r : Record} {t : Track} {i : Fin 32} (fires : r.fires t i) : i.val < r.laneCount := by
  simp only [Record.fires, Bool.and_eq_true, decide_eq_true_eq] at fires
  obtain ⟨⟨⟨window, -⟩, -⟩, -⟩ := fires
  exact window

/-- A record after a grant: of the firing set served and settled, else as it was. -/
theorem State.serveValves_valves (s : State) (t : Track) (tClose : Time) (i : Fin 32) :
    (s.serveValves t tClose).valves[i] = if s.record.fires t i then
        settleValve s.belt.timebase s.record.recovery (serveValve s.belt.timebase tClose s.record.maxOpen s.valves[i])
      else s.valves[i] := by
  simp [State.serveValves]

/-- A record open after it was served was open, or closed before. -/
theorem isOpen_of_served {now tClose : Time} {recovery maxOpen : Nat} {v : Valve}
    (stays : (settleValve now recovery (serveValve now tClose maxOpen v)).isOpen) : v.isOpen || v.isClosed := by
  cases v with
  | opened => rfl
  | closed => rfl
  | resting => cases stays

/-- The open count after a grant: at most the open and the new valves (R153). -/
theorem State.serveValves_openCount (s : State) (t : Track) (tClose : Time) :
    (s.serveValves t tClose).openCount ≤ s.openCount + s.newCount (s.record.firingSet t) := by
  have new : s.newCount (s.record.firingSet t)
      = (List.finRange 32).countP fun i => (s.valves[i]).isClosed && s.record.fires t i := by
    rw [State.newCount, Record.firingSet, List.countP_filter]
  rw [State.openCount_eq, s.openCount_eq, new]
  refine Nat.le_trans (List.countP_mono_left fun i _ isOpen => ?_) (countP_or_le _ _ _)
  rw [s.serveValves_valves] at isOpen
  split at isOpen
  next fires =>
    have before := isOpen_of_served isOpen
    simpa [fires] using before
  · simp only [isOpen, Bool.true_or]

theorem State.serveValves_bounded (s : State) (t : Track) (tClose : Time) (bounded : s.valvesBounded) :
    (s.serveValves t tClose).valvesBounded := by
  intro i
  rw [s.serveValves_valves, s.serveValves_only t tClose .record (by simp)]
  split
  next fires =>
    have window := decide_eq_true (Record.inWindow_of_fires fires)
    exact serveValve_bounded s.record.maxOpen_lt (window ▸ bounded i) window
  · exact bounded i

theorem State.granted_bankSound {s : State} {t : Track} (f : Flight) (listed : t ∈ s.tracks) (granted : s.refusal t = none)
    (g : Track → Track) (sound : s.bankSound) : ((s.serveValves t f.tClose).updateTrack t.made g).bankSound := by
  obtain ⟨-, -, empty, bounded, -, low⟩ := sound
  obtain ⟨notHeld, within⟩ := State.of_granted granted
  have only := s.granted_only t f.tClose g
  have notSetup : s.mode ≠ .setup := fun setup => by simp [empty setup] at listed
  have run : s.mode = .run := by
    cases mode : s.mode with
    | run => rfl
    | held => exact absurd mode notHeld
    | setup => exact absurd mode notSetup
  have mode : ((s.serveValves t f.tClose).updateTrack t.made g).mode = .run := (only .mode (by simp)).trans run
  have record := only .record (by simp)
  have budget : s.budgetInForce ≤ s.record.budget := by
    unfold State.budgetInForce
    split
    · exact low
    · exact Nat.le_refl _
  have valves := State.updateTrack_only (s.serveValves t f.tClose) t.made g .valves (by simp)
  have served := State.updateTrack_only (s.serveValves t f.tClose) t.made g .record (by simp)
  refine ⟨fun other => absurd mode other, fun held => absurd (mode.symm.trans held) (by simp),
    fun setup => absurd (mode.symm.trans setup) (by simp), ?_, ?_, ?_⟩
  · intro i
    rw [valves, served]
    exact s.serveValves_bounded t f.tClose bounded i
  · rw [record, State.openCount_of_valves valves]
    exact (s.serveValves_openCount t f.tClose).trans (within.trans budget)
  · rw [record]
    exact low

/-! ## Moves and effects -/

theorem Move.keeps_bank {s t : State} (move : Move sights s t) (sound : s.bankSound) : t.bankSound := by
  have same {parts : List Part} (only : s.changesOnly t parts)
      (apart : ∀ p ∈ [Part.mode, .record, .tracks, .valves], p ∉ parts) : t.bankSound :=
    State.bankSound_of_same (only .mode (apart _ (by simp))) (only .record (apart _ (by simp)))
      (only .tracks (apart _ (by simp))) (only .valves (apart _ (by simp))) sound
  have tracks (ts : List Track) (n : Nat) : s.changesOnly { s with tracks := ts, nextMade := n } [.tracks, .nextMade] := by
    intro p hp
    cases p <;> first | rfl | simp at hp
  cases move with
  | aside only => exact same only (by simp)
  | enqueueUrgent u => exact same (s.enqueueUrgent_only u) (by simp)
  | enqueueSighting x => exact same (s.enqueueSighting_only x) (by simp)
  | placeStatus => exact same s.placeStatus_only (by simp)
  | begin => exact same s.begin_only (by simp)
  | breakAttempt a => exact same (s.breakAttempt_only a) (by simp)
  | remove id =>
    exact State.bankSound_of_tracks (tracks _ s.nextMade) (by simp)
      (fun _ others u hu => others u (List.mem_of_mem_filter hu)) (fun _ none => by rw [State.removeTrack_tracks, none]; rfl) sound
  | change t f _ _ _ _ holds =>
    refine State.bankSound_of_tracks (State.updateTrack_only s t.made f) (by simp) (fun _ others v updated firing => ?_)
      (fun _ none => by rw [State.updateTrack_tracks, none]; rfl) sound
    rw [State.updateTrack_tracks, List.mem_map] at updated
    obtain ⟨u, hu, rfl⟩ := updated
    split at firing
    · exact others u hu (holds u firing)
    · exact others u hu firing
  | grant t f listed _ _ granted => exact State.granted_bankSound f listed granted _ sound
  | valve i v closes =>
    obtain ⟨none, firing, setup, bounded, few, low⟩ := sound
    have at_ (k : Fin 32) : (s.valves.set i v)[k] = if i = k then v else s.valves[k] := by
      simp [Vector.getElem_set, Fin.ext_iff]
    have fewer : State.openCount { s with valves := s.valves.set i v } ≤ s.openCount := by
      refine State.openCount_le fun k isOpen => ?_
      rw [at_] at isOpen
      split at isOpen
      next is => rw [closes isOpen, is] at isOpen; exact isOpen
      · exact isOpen
    refine ⟨fun rests => Nat.le_zero.mp (none rests ▸ fewer), firing, setup, fun k => ?_, fewer.trans few, low⟩
    rw [at_]
    split
    next is =>
      subst is
      cases isOpen : v.isOpen with
      | true => rw [closes isOpen]; exact bounded i
      | false => exact Valve.bounded_of_not_isOpen isOpen _ _
    · exact bounded k
  | make x _ _ _ collecting _ operating =>
    refine State.bankSound_of_tracks (tracks _ _) (by simp) (fun _ others u hu => ?_)
      (fun setup => absurd setup operating) sound
    rcases List.mem_cons.mp ((placeTrack_perm _ _ _).mem_iff.mp hu) with rfl | hu
    · simp [collecting]
    · exact others u hu
  | join t others x listed collecting =>
    refine State.bankSound_of_tracks (tracks _ s.nextMade) (by simp) (fun _ others u hu => ?_)
      (fun _ none => by simp [none] at listed) sound
    rcases List.mem_cons.mp ((placeTrack_perm _ _ _).mem_iff.mp hu) with rfl | hu
    · simp [joined_state, collecting]
    · exact others u (List.mem_of_mem_filter hu)
  | hold n run ended =>
    have only := s.held_only n
    obtain ⟨-, -, -, -, -, low⟩ := sound
    refine State.bankSound_of_rest (fun i => ?_) (fun _ => ended) nofun low
    exact (s.closeAllValves_valves i) ▸ closeValve_isOpen _ _ _
  | release held =>
    obtain ⟨none, -, -, bounded, few, low⟩ := sound
    exact ⟨fun other => absurd rfl other, nofun, nofun, bounded, few, low⟩
  | start setup =>
    obtain ⟨none, -, -, bounded, few, low⟩ := sound
    exact ⟨fun other => absurd rfl other, nofun, nofun, bounded, few, low⟩
  | _ => exact State.bankSound_of_same (s := s) rfl rfl rfl rfl sound

theorem Works.keeps_bank {s t : State} (works : Works sights s t) (sound : s.bankSound) : t.bankSound :=
  works.keeps (fun _ _ => Move.keeps_bank) sound

theorem Record.write_budgetLow (r : Record) (offset : Nat) (data : List Byte) :
    (r.write offset data).budgetLow ≤ (r.write offset data).budget := by
  obtain ⟨-, low, others⟩ := (r.clamped offset data).agree_spec
  have budget : (r.write offset data).budget = (r.clamped offset data).budget :=
    congrArg BitVec.toNat (others 87 (by decide) (by decide) (by decide))
  rw [budget, r.write_eq, low]
  exact Nat.min_le_left _ _

theorem State.writeRecord_bankSound (s : State) (offset : Nat) (data : List Byte) (setup : s.mode = .setup)
    (sound : s.bankSound) : (s.writeRecord offset data).bankSound := by
  obtain ⟨none, -, empty, -⟩ := sound
  refine (s.writeRecord_works offset data).keeps_bank ?_
  refine State.bankSound_of_rest (s.openCount_eq_zero_iff.mp (none (by simp [setup]))) (fun held => ?_) empty
    (s.record.write_budgetLow offset data)
  exact absurd (setup.symm.trans held) (by simp)

theorem State.warmRestart_bankSound (s : State) (sound : s.bankSound) : s.warmRestart.bankSound := by
  obtain ⟨-, -, -, -, -, low⟩ := sound
  have tracks : s.warmRestart.tracks = [] := by simp [State.warmRestart]
  have valves : s.warmRestart.valves = s.closeAllValves.valves := by simp [State.warmRestart]
  have low' : s.warmRestart.record.budgetLow ≤ s.warmRestart.record.budget := by
    rw [s.warmRestart_record]
    exact low
  refine State.bankSound_of_rest (fun i => ?_) (fun _ u hu => ?_) (fun _ => tracks) low'
  · rw [valves, s.closeAllValves_valves]
    exact closeValve_isOpen _ _ _
  · rw [tracks] at hu
    exact absurd hu List.not_mem_nil

/-- Settles O8: a grant opens valves of the window within the budget in RUN alone, entering HELD and a restart close them all. -/
theorem stepKeepsValveBankAndLineHold : Obligations.StepKeepsValveBankAndLineHold := by
  intro s t held valves next
  have answered (z : State) (status : PortStatus) (rest : List Byte) (sound : z.bankSound) :
      (z.answer status rest).bankSound := State.bankSound_of_same (s := z) rfl rfl rfl rfl sound
  refine t.bankSound_iff.mp (step_keeps (P := State.bankSound) (fun x y only => State.bankSound_of_same (only .mode (by simp))
    (only .record (by simp)) (only .tracks (by simp)) (only .valves (by simp))) (fun x sound => sound) ?_
    (s.bankSound_iff.mpr ⟨held, valves⟩) next)
  intro c x y effect sound
  cases effect with
  | works h => exact h.keeps_bank sound
  | edge _ between =>
    rw [x.forwardEdge_eq]
    exact State.advances_keeps (P := State.bankSound) x.belt.timebase (fun _ _ => Works.keeps_bank) (fun _ kept => kept)
      x.edgeUnits x.gained between sound
  | write offset count data _ setup => exact answered _ _ _ (x.writeRecord_bankSound _ _ setup sound)
  | restart => exact answered _ _ _ (x.warmRestart_bankSound sound)
  | clearFlags | clearTallies => exact sound
  | cold =>
    refine State.bankSound_of_rest (fun i => ?_) nofun (fun _ => rfl)
      (by decide : Record.cold.budgetLow ≤ Record.cold.budget)
    simp [State.cold, Valve.isOpen]

end Sys2Proof.Machine

/-! PROOF. The parts each command may change, and the registers that change only by their own commands (R6, R8, R74, R168, R169,
R171). -/

namespace Sys2Proof.Machine

/-! ## The parts of each command -/

/-- The parts of a warm restart and its answer. -/
abbrev restartParts : List Part :=
  [.mode, .scan, .localSightings, .tx, .inbox, .copies, .peers, .haltSet, .monitor, .tracks, .valves, .tallies, .response,
   .outgoing]

/-- The parts that a command, but for the two of a cold start, may change. -/
def commandParts : Instr → List Part
  | .encoderEdge _ _ _ => betweenParts
  | .stall => [.belt, .tallies, .flags]
  | .exchangeComplete _ _ => scanParts
  | .localSightingTaken => .localSightings :: trackParts
  | .lineIdle _ => linkParts
  | .startEdgeLatch => [.line]
  | .arbitrationLost _ => [.tx]
  | .bitError => [.tx, .line, .tallies, .flags]
  | .attemptComplete => [.tx, .line]
  | .beaconDue => linkParts
  | .frameReceived _ => .line :: frameParts
  | .peerLossDue _ => [.peers, .tallies, .flags]
  | .monitorSample _ => conditionParts
  | .sightTaken => .inbox :: trackParts
  | .claimTaken => [.inbox, .tracks, .tallies]
  | .firedTaken => .inbox :: endParts
  | .missedTaken => [.inbox, .tracks, .tallies]
  | .tOpenDue => flightParts
  | .coastingTOpen _ => endParts
  | .tCloseDue _ => endParts
  | .closeAtDue _ => [.valves]
  | .recoverUntilDue _ => [.valves]
  | .writeConfig _ _ _ => .record :: .belt :: .response :: .outgoing :: conditionParts
  | .start => startParts
  | .restart => restartParts
  | .clearFlags _ => [.flags, .response, .outgoing]
  | .clearTallies => [.tallies, .response, .outgoing]
  | .haltAssert => .response :: .outgoing :: .operatorHalt :: haltParts
  | .haltRelease => .response :: .outgoing :: .operatorHalt :: haltParts
  | .clearHalt _ => .haltSet :: .response :: .outgoing :: holdParts
  | .readLatest => [.latest, .response, .outgoing]
  | .readCopy => [.copies, .response, .outgoing]
  | .readIdent | .readConfig | .readState _ | .readFlags _ | .readTallies _ | .readPeers _ | .readTrace | .unknownCommand _
  | .transactionAbandon => portParts
  | .resetAssert | .coldStart _ => []

/-! ## Frames of the remaining effects -/

theorem State.dropResponse_only (s : State) : s.changesOnly s.dropResponse portParts := by
  intro p hp
  cases p <;> first | rfl | simp at hp

theorem State.setTx_only (s : State) (x : Transmitter) : s.changesOnly { s with tx := x } [.tx] := by
  intro p hp
  cases p <;> first | rfl | simp at hp

theorem State.setLine_only (s : State) (x : LineLink) : s.changesOnly { s with line := x } [.line] := by
  intro p hp
  cases p <;> first | rfl | simp at hp

theorem State.setValves_only (s : State) (vs : Vector Valve 32) : s.changesOnly { s with valves := vs } [.valves] := by
  intro p hp
  cases p <;> first | rfl | simp at hp

theorem State.enterStall_only (s : State) : s.changesOnly s.enterStall [.belt, .tallies, .flags] :=
  (s.setBelt_only _).then ((State.bump_only _ _).then (State.raise_only _ _) (rs := [.tallies, .flags]) (by simp) (by simp))
    (by simp) (by simp)

theorem State.completeAttempt_only (s : State) (x : Transmitter) (l : LineLink) :
    s.changesOnly { s with tx := x, line := l } [.tx, .line] := (s.setTx_only x).then (State.setLine_only _ l) (by simp) (by simp)

theorem State.losePeer_only (s : State) (id : Fin 24) : s.changesOnly (s.losePeer id) [.peers, .tallies, .flags] :=
  (s.updatePeer_only _ _).then ((State.bump_only _ _).then (State.raise_only _ _) (rs := [.tallies, .flags]) (by simp) (by simp))
    (by simp) (by simp)

theorem State.writeRecord_only (s : State) (offset : Nat) (data : List Byte) :
    s.changesOnly (s.writeRecord offset data) (.record :: .belt :: conditionParts) := by
  have written : s.changesOnly { s with record := s.record.write offset data
                                        belt := s.belt.repitch s.record (s.record.write offset data) } [.record, .belt] := by
    intro p hp
    cases p <;> first | rfl | simp at hp
  unfold State.writeRecord
  exact .ite _ (written.then (State.evaluateConditions_only _) (by simp) (by simp)) (written.mono (by simp))

theorem State.warmRestart_only (s : State) : s.changesOnly s.warmRestart restartParts := by
  intro p hp
  cases p <;> first | (simp at hp; done) | (unfold State.warmRestart; simp [Part.same])

theorem State.forwardEdge_only (s : State) (between : List (List Between)) :
    s.changesOnly (s.forwardEdge between) betweenParts := by
  rw [s.forwardEdge_eq]
  exact (s.setBelt_only _).then (State.advances_between_only _ _ _ _) (by simp) (fun _ h => h)

/-- The frame of an act is that of its effect. -/
theorem State.act_changesOnly {f : State → State} {s t : State} {ps : List Part} (next : s.act f = .next t)
    (only : s.changesOnly (f s) ps) : s.changesOnly t ps := by
  obtain ⟨-, rfl⟩ | ⟨-, rfl⟩ := s.act_next t f next
  · exact .refl _ _
  · exact only

theorem changesOnly_of_exists {o : Host.Outcome State Fault Refusal} {s t : State} {ps : List Part}
    (only : ∃ u, o = .next u ∧ s.changesOnly u ps) (next : o = .next t) : s.changesOnly t ps := by
  obtain ⟨u, is, same⟩ := only
  cases is.symm.trans next
  exact same

/-! ## The frame of every command -/

theorem exec_only {c : Instr} {s t : State} (next : exec c s = .next t) (running : isReset c = false) :
    s.changesOnly t (commandParts c) := by
  cases c with
  | encoderEdge rising forward between =>
    refine State.act_changesOnly (f := fun s => if s.record.countedEdge.counts rising then
      if forward then s.forwardEdge between else s.reverseEdge else s) next (.ite _ (.ite _ (s.forwardEdge_only _) ?_) (.refl _ _))
    exact (s.bump_only _).then (State.raise_only _ _) (by simp [commandParts]) (by simp [commandParts])
  | stall =>
    change execStall s = _ at next
    refine State.act_changesOnly next ?_
    split
    · exact .refl _ _
    · exact .ite _ s.enterStall_only (.refl _ _)
  | exchangeComplete status mags => exact changesOnly_of_exists (execExchangeComplete_only status mags s) next
  | localSightingTaken => exact changesOnly_of_exists (execLocalSightingTaken_only s) next
  | lineIdle startEdge => exact changesOnly_of_exists (execLineIdle_only s startEdge) next
  | startEdgeLatch => exact changesOnly_of_exists (execStartEdgeLatch_only s) next
  | arbitrationLost bit =>
    change execArbitrationLost bit s = _ at next
    refine State.act_changesOnly next ?_
    split
    · exact .refl _ _
    · exact .ite _ (s.setTx_only _) (.refl _ _)
  | bitError =>
    change execBitError s = _ at next
    refine State.act_changesOnly next ?_
    split
    · exact .refl _ _
    · exact s.breakAttempt_only _
  | attemptComplete =>
    change execAttemptComplete s = _ at next
    refine State.act_changesOnly next ?_
    split
    · exact .refl _ _
    · exact s.completeAttempt_only _ _
  | beaconDue => exact changesOnly_of_exists (execBeaconDue_only s) next
  | frameReceived f =>
    change execFrameReceived f s = _ at next
    refine State.act_changesOnly next ?_
    have ended : s.changesOnly s.endFrame (.line :: frameParts) := s.endFrame_only.mono (by simp)
    split
    · split
      · exact ended.trans ((State.bump_only _ _).mono (by simp))
      · exact ended.trans ((State.acceptedFrame_only _ _ _ _).mono (by simp))
    · exact ended.trans ((State.bump_only _ _).mono (by simp))
    all_goals exact .refl _ _
  | peerLossDue id =>
    change execPeerLossDue id s = _ at next
    refine State.act_changesOnly next ?_
    split
    · exact .refl _ _
    · exact .ite _ (s.losePeer_only id) (.refl _ _)
  | monitorSample levels => exact changesOnly_of_exists (execMonitorSample_only levels s) next
  | sightTaken => exact changesOnly_of_exists (execSightTaken_only s) next
  | claimTaken => exact changesOnly_of_exists (execClaimTaken_only s) next
  | firedTaken => exact changesOnly_of_exists (execFiredTaken_only s) next
  | missedTaken => exact changesOnly_of_exists (execMissedTaken_only s) next
  | tOpenDue => exact changesOnly_of_exists (execTOpenDue_only s) next
  | coastingTOpen track =>
    change execCoastingTOpen track s = _ at next
    refine State.act_changesOnly next ?_
    split
    · exact .refl _ _
    · split
      · exact .ite _ (s.endTrack_only _ _) (.refl _ _)
      · exact .refl _ _
  | tCloseDue track => exact State.act_changesOnly (show execTCloseDue track s = _ from next) (by exact s.settleTrack_only _)
  | closeAtDue i => exact State.act_changesOnly (show execCloseAtDue i s = _ from next) (by exact s.setValves_only _)
  | recoverUntilDue i => exact State.act_changesOnly (show execRecoverUntilDue i s = _ from next) (by exact s.setValves_only _)
  | readIdent => exact State.act_changesOnly (show execReadIdent s = _ from next) (by exact s.answer_only _ _)
  | readConfig => exact State.act_changesOnly (show execReadConfig s = _ from next) (by exact s.answer_only _ _)
  | readState waits => exact State.act_changesOnly (show execReadState s waits = _ from next) (by exact s.reply_only _ _)
  | readFlags waits => exact State.act_changesOnly (show execReadFlags s waits = _ from next) (by exact s.reply_only _ _)
  | readTallies waits => exact State.act_changesOnly (show execReadTallies s waits = _ from next) (by exact s.reply_only _ _)
  | readPeers waits => exact State.act_changesOnly (show execReadPeers s waits = _ from next) (by exact s.reply_only _ _)
  | readTrace => exact State.act_changesOnly (show execReadTrace s = _ from next) (by exact s.answer_only _ _)
  | writeConfig offset count data =>
    change execWriteConfig offset count data s = _ at next
    refine State.act_changesOnly next ?_
    refine .ite _ (s.dropResponse_only.mono (by simp [commandParts])) (.ite _ ((s.answer_only _ _).mono (by simp [commandParts])) ?_)
    exact (s.writeRecord_only _ _).then (State.answer_only _ _ _) (by simp [commandParts]) (by simp [commandParts])
  | start => exact changesOnly_of_exists (execStart_only s) next
  | restart =>
    change execRestart s = _ at next
    refine State.act_changesOnly next ?_
    exact State.changesOnly.then (.ite _ s.warmRestart_only (.refl _ _)) (State.answer_only _ _ _) (fun _ h => h)
      (by simp [commandParts])
  | clearFlags mask =>
    change execClearFlags mask s = _ at next
    refine State.act_changesOnly next fun p hp => ?_
    cases p <;> first | rfl | simp [commandParts] at hp
  | clearTallies =>
    change execClearTallies s = _ at next
    refine State.act_changesOnly next fun p hp => ?_
    cases p <;> first | rfl | simp [commandParts] at hp
  | haltAssert => exact changesOnly_of_exists (execHaltAssert_only s) next
  | haltRelease => exact changesOnly_of_exists (execHaltRelease_only s) next
  | clearHalt id =>
    change execClearHalt id s = _ at next
    refine State.act_changesOnly next (.ite _ ((s.answer_only _ _).mono (by simp [commandParts])) ?_)
    have removed : s.changesOnly (s.removeHalt id.toNat).settleMode (commandParts (.clearHalt id)) :=
      (s.removeHalt_only _).then (State.settleMode_only _) (by simp [commandParts]) (by simp [commandParts])
    exact removed.trans ((State.answer_only _ _ _).mono (by simp [commandParts]))
  | readLatest =>
    change execReadLatest s = _ at next
    refine State.act_changesOnly next fun p hp => ?_
    cases p <;> first | rfl | simp [commandParts] at hp
  | readCopy =>
    change execReadCopy s = _ at next
    refine State.act_changesOnly next ?_
    split
    · exact (s.answer_only _ _).mono (by simp [commandParts])
    · intro p hp
      cases p <;> first | rfl | simp [commandParts] at hp
  | unknownCommand code =>
    change execUnknownCommand code s = _ at next
    exact State.act_changesOnly next (.ite _ (.refl _ _) (s.answer_only _ _))
  | transactionAbandon => exact State.act_changesOnly (show execTransactionAbandon s = _ from next) (by exact s.dropResponse_only)
  | resetAssert | coldStart => simp [isReset] at running

/-! ## The registers -/

/-- What no move changes of the belt counter: timebase, count and accumulator. -/
def Belt.clock (b : Belt) : Time × Count × Nat := (b.timebase, b.count, b.accumulator)

theorem Move.keeps_clock {sights : Prop} {s t : State} (move : Move sights s t) : t.belt.clock = s.belt.clock := by
  cases move with
  | aside only => exact congrArg Belt.clock (only .belt (by simp))
  | grant t f => exact congrArg Belt.clock (s.granted_only t f.tClose _ .belt (by simp))
  | hold n => exact congrArg Belt.clock (s.held_only n .belt (by simp))
  | enqueueUrgent u => exact congrArg Belt.clock (s.enqueueUrgent_only u .belt (by simp))
  | enqueueSighting x => exact congrArg Belt.clock (s.enqueueSighting_only x .belt (by simp))
  | placeStatus => exact congrArg Belt.clock (s.placeStatus_only .belt (by simp))
  | begin => exact congrArg Belt.clock (s.begin_only .belt (by simp))
  | breakAttempt a => exact congrArg Belt.clock (s.breakAttempt_only a .belt (by simp))
  | _ => rfl

theorem Works.keeps_clock {sights : Prop} {s t : State} (works : Works sights s t) : t.belt.clock = s.belt.clock :=
  works.relates (R := fun s t => t.belt.clock = s.belt.clock) (fun _ => rfl) (fun _ _ _ first second => second.trans first)
    fun _ _ => Move.keeps_clock

theorem Works.keeps_timebase {sights : Prop} {s t : State} (works : Works sights s t) : t.belt.timebase = s.belt.timebase :=
  congrArg Prod.fst works.keeps_clock

theorem Works.keeps_count {sights : Prop} {s t : State} (works : Works sights s t) : t.belt.count = s.belt.count :=
  congrArg (fun c => c.2.1) works.keeps_clock

theorem State.forwardEdge_timebase (s : State) (between : List (List Between)) :
    (s.forwardEdge between).belt.timebase = s.belt.timebase := by
  rw [s.forwardEdge_eq]
  exact State.advances_keeps (P := fun x => x.belt.timebase = s.belt.timebase) _
    (fun _ _ works same => works.keeps_timebase.trans same) (fun _ same => same) _ _ _ rfl

/-- Timebase and, but for an edge, count stay through every effect of a running part. -/
theorem Effect.keeps_clock {c : Instr} {s t : State} (effect : Effect c s t) (running : isReset c = false) :
    t.belt.timebase = s.belt.timebase ∧ ((∀ r f b, c ≠ .encoderEdge r f b) → t.belt.count = s.belt.count) := by
  cases effect with
  | works h => exact ⟨h.keeps_timebase, fun _ => h.keeps_count⟩
  | edge rising between is => exact ⟨s.forwardEdge_timebase between, fun other => absurd is (other _ _ _)⟩
  | write offset count data =>
    have belt := State.answer_only (s.writeRecord offset.toNat (data.take count.toNat))
    obtain ⟨n, pitched, -⟩ := s.belt.repitch_eq s.record (s.record.write offset.toNat (data.take count.toNat))
    have works := s.writeRecord_works offset.toNat (data.take count.toNat)
    rw [belt _ _ .belt (by simp), works.keeps_timebase, works.keeps_count, pitched]
    exact ⟨rfl, fun _ => rfl⟩
  | restart =>
    have belt : (s.warmRestart.answer .ok []).belt = s.belt := by simp [State.warmRestart]
    rw [belt]
    exact ⟨rfl, fun _ => rfl⟩
  | clearFlags | clearTallies => exact ⟨rfl, fun _ => rfl⟩
  | cold is => exact absurd is (by simp [running])

/-- But for the two commands of the operator, no event between advances touches OPERATOR. -/
theorem State.meet_operatorHalt (s : State) (e : Between) (assert : e ≠ .haltAssert) (release : e ≠ .haltRelease) :
    (s.meet e).operatorHalt = s.operatorHalt := by
  have through {o : Host.Outcome State Fault Refusal} {ps : List Part} (only : ∃ t, o = .next t ∧ s.changesOnly t ps)
      (apart : Part.operatorHalt ∉ ps) : (s.through o).operatorHalt = s.operatorHalt :=
    s.through_only only (fun _ h => h) .operatorHalt apart
  cases e with
  | portValue => exact s.formValue_only .operatorHalt (by simp)
  | exchangeComplete status mags => exact through (execExchangeComplete_only status mags s) (by simp)
  | localSightingTaken => exact through (execLocalSightingTaken_only s) (by simp)
  | lineIdle startEdge => exact through (execLineIdle_only s startEdge) (by simp)
  | startEdgeLatch => exact through (execStartEdgeLatch_only s) (by simp)
  | beaconDue => exact through (execBeaconDue_only s) (by simp)
  | monitorSample levels => exact through (execMonitorSample_only levels s) (by simp)
  | sightTaken => exact through (execSightTaken_only s) (by simp)
  | claimTaken => exact through (execClaimTaken_only s) (by simp)
  | firedTaken => exact through (execFiredTaken_only s) (by simp)
  | missedTaken => exact through (execMissedTaken_only s) (by simp)
  | tOpenDue => exact through (execTOpenDue_only s) (by simp)
  | start => exact through (execStart_only s) (by simp)
  | haltAssert => exact absurd rfl assert
  | haltRelease => exact absurd rfl release

theorem State.meets_operatorHalt (gap : List Between) : ∀ s : State, (.haltAssert ∉ gap ∧ .haltRelease ∉ gap) →
    (gap.foldl State.meet s).operatorHalt = s.operatorHalt := by
  induction gap with
  | nil => exact fun s _ => rfl
  | cons e rest ih =>
    rintro s ⟨assert, release⟩
    simp only [List.mem_cons, not_or] at assert release
    exact (ih _ ⟨assert.2, release.2⟩).trans (s.meet_operatorHalt e (Ne.symm assert.1) (Ne.symm release.1))

theorem State.advances_operatorHalt (stamp : Time) (n : Nat) : ∀ (s : State) (between : List (List Between)),
    (∀ gap ∈ between, .haltAssert ∉ gap ∧ .haltRelease ∉ gap) →
      (s.advances stamp n between).operatorHalt = s.operatorHalt := by
  induction n with
  | zero => exact fun s _ _ => rfl
  | succ n ih =>
    intro s between calm
    have advanced := s.advance_only stamp .operatorHalt (by simp)
    match between with
    | [] => exact (ih _ _ calm).trans advanced
    | gap :: rest =>
      obtain ⟨quiet, later⟩ := List.forall_mem_cons.mp calm
      refine (ih _ rest later).trans ?_
      split
      · exact advanced
      · exact (State.meets_operatorHalt gap _ quiet).trans advanced

theorem execEncoderEdge_operatorHalt {r f : Bool} {b : List (List Between)} {s t : State}
    (next : execEncoderEdge r f s b = .next t) (calm : ∀ gap ∈ b, .haltAssert ∉ gap ∧ .haltRelease ∉ gap) :
    t.operatorHalt = s.operatorHalt := by
  obtain ⟨-, rfl⟩ | ⟨-, rfl⟩ := s.act_next t _ next
  · rfl
  · split
    · split
      · rw [s.forwardEdge_eq]
        exact State.advances_operatorHalt _ _ s.gained b calm
      · rfl
    · rfl

/-- OPERATOR has its own two commands. -/
theorem exec_operatorHalt {c : Instr} {s t : State} (next : exec c s = .next t) (running : isReset c = false)
    (assert : c ≠ .haltAssert) (release : c ≠ .haltRelease)
    (calm : ∀ r f b, c = .encoderEdge r f b → ∀ gap ∈ b, .haltAssert ∉ gap ∧ .haltRelease ∉ gap) :
    t.operatorHalt = s.operatorHalt := by
  have only := exec_only next running .operatorHalt
  cases c with
  | encoderEdge r f b => exact execEncoderEdge_operatorHalt next (calm r f b rfl)
  | haltAssert => exact absurd rfl assert
  | haltRelease => exact absurd rfl release
  | resetAssert | coldStart => simp [isReset] at running
  | _ => exact only (by simp [commandParts])

/-- Settles O4: the frame of each command leaves the station's registers, and the clock is no move's. -/
theorem stationRegistersHaveTheirCommands : Obligations.StationRegistersHaveTheirCommands := by
  intro c s t next
  refine ⟨?pending, fun running => ?registers⟩
  case pending =>
    cases reset : isReset c with
    | false => exact exec_only next reset .pending (by cases c <;> simp [commandParts])
    | true =>
      cases c with
      | resetAssert => cases next; rfl
      | coldStart straps => cases next; rfl
      | _ => simp [isReset] at reset
  case registers =>
    have only := exec_only next running
    obtain ⟨timebase, count⟩ := (exec_effect next).keeps_clock running
    refine ⟨only .inReset (by cases c <;> simp [commandParts]), only .strapId (by cases c <;> simp [commandParts]), timebase, count,
      fun other => ?_, fun operating => ?_, exec_operatorHalt next running⟩
    · refine only .record ?_
      cases c with
      | writeConfig o n d => exact absurd rfl (other o n d)
      | _ => simp [commandParts]
    · cases exec_effect next with
      | works h => exact h.keeps_record
      | edge _ between => exact s.forwardEdge_record between
      | write _ _ _ _ setup => simp [State.operating, setup] at operating
      | restart => exact (State.answer_only _ _ _ .record (by simp)).trans s.warmRestart_record
      | clearFlags | clearTallies => rfl
      | cold is => exact absurd is (by simp [running])

end Sys2Proof.Machine

/-! PROOF. SETUP at rest through every step (R41, R88, R173, R182): tables, queues and slot by the moves, scan unit and local
sightings by the frames of the commands. -/

namespace Sys2Proof.Machine

variable {sights : Prop}

/-- What an advance and each event between advances keep, the advances of an edge keep. -/
theorem State.advances_induction {P : State → Prop} (stamp : Time) (advance : ∀ s : State, P s → P (s.advance stamp))
    (meet : ∀ (s : State) (e : Between), P s → P (s.meet e)) (n : Nat) :
    ∀ (s : State) (between : List (List Between)), P s → P (s.advances stamp n between) := by
  have meets (gap : List Between) : ∀ s : State, P s → P (gap.foldl State.meet s) := by
    induction gap with
    | nil => exact fun s held => held
    | cons e rest ih => exact fun s held => ih _ (meet s e held)
  induction n with
  | zero => exact fun s between held => held
  | succ n ih =>
    intro s between held
    match between with
    | [] => exact ih _ _ (advance s held)
    | gap :: rest =>
      refine ih _ rest ?_
      split
      · exact advance s held
      · exact meets gap _ (advance s held)

/-! ## In SETUP nothing is offered or begun -/

theorem State.enqueueUrgent_of_setup {s : State} (setup : s.mode = .setup) (u : Urgent) : s.enqueueUrgent u = s := by
  simp [State.enqueueUrgent, State.operating, setup]

theorem State.enqueueSighting_of_setup {s : State} (setup : s.mode = .setup) (x : Sighting) : s.enqueueSighting x = s := by
  simp [State.enqueueSighting, State.operating, setup]

theorem State.placeStatus_of_setup {s : State} (setup : s.mode = .setup) : s.placeStatus = s := by
  simp [State.placeStatus, State.operating, setup]

theorem State.begin_of_setup {s : State} (setup : s.mode = .setup) : s.begin = s := by
  simp [State.begin, State.mayBegin, State.operating, setup]

theorem State.offer_of_setup {s : State} (setup : s.mode = .setup) (u : Urgent) : s.offer u = s := by
  rw [State.offer, State.enqueueUrgent_of_setup setup, State.begin_of_setup setup]

/-! ## Only a restart leads back to SETUP -/

theorem Move.keeps_operating {s t : State} (move : Move sights s t) (operating : s.mode ≠ .setup) : t.mode ≠ .setup := by
  have same (mode : t.mode = s.mode) : t.mode ≠ .setup := mode ▸ operating
  cases move with
  | aside only => exact same (only .mode (by simp))
  | grant t f => exact same (s.granted_only t f.tClose _ .mode (by simp))
  | enqueueUrgent u => exact same (s.enqueueUrgent_only u .mode (by simp))
  | enqueueSighting x => exact same (s.enqueueSighting_only x .mode (by simp))
  | placeStatus => exact same (s.placeStatus_only .mode (by simp))
  | begin => exact same (s.begin_only .mode (by simp))
  | breakAttempt a => exact same (s.breakAttempt_only a .mode (by simp))
  | hold => exact nofun
  | release => exact nofun
  | start => exact nofun
  | _ => exact operating

theorem Works.keeps_operating {s t : State} (works : Works sights s t) (operating : s.mode ≠ .setup) : t.mode ≠ .setup :=
  works.keeps (P := fun x => x.mode ≠ .setup) (fun _ _ => Move.keeps_operating) operating

/-- A chain of moves that ends in SETUP began there. -/
theorem Works.setup {s t : State} (works : Works sights s t) (setup : t.mode = .setup) : s.mode = .setup :=
  not_imp_not.mp works.keeps_operating setup

/-! ## Table, inbox and transmitter -/

/-- In SETUP track table, inbox, queues and slot are empty and the beacon is stopped. -/
def State.queuesRest (s : State) : Prop :=
  s.mode = .setup → s.tracks = [] ∧ s.inbox = [] ∧ s.tx.urgent = [] ∧ s.tx.sightings = [] ∧ s.tx.beacon = none
    ∧ s.tx.beaconDue = none

/-- In SETUP no sighting waits and the scan unit is cleared, an exchange on the wire being void. -/
def State.scanRests (s : State) : Prop :=
  s.mode = .setup → s.localSightings = [] ∧ s.scan.objects = [] ∧ s.scan.continuations = [] ∧ s.scan.waiting = 0
    ∧ s.scan.heldPresence = 0 ∧ s.scan.lastRaw = 0 ∧ s.scan.filtered = 0 ∧ s.scan.link.atRest

theorem State.setupAtRest_iff (s : State) : s.setupAtRest ↔ s.queuesRest ∧ s.scanRests := by
  unfold State.setupAtRest State.queuesRest State.scanRests
  constructor
  · intro h
    refine ⟨fun setup => ?_, fun setup => ?_⟩ <;>
      obtain ⟨tracks, inbox, sights, urgent, sightings, beacon, due, objects, spans, waiting, held, raw, filtered, link⟩ := h setup
    · exact ⟨tracks, inbox, urgent, sightings, beacon, due⟩
    · exact ⟨sights, objects, spans, waiting, held, raw, filtered, link⟩
  · rintro ⟨queues, scan⟩ setup
    obtain ⟨tracks, inbox, urgent, sightings, beacon, due⟩ := queues setup
    obtain ⟨sights, objects, spans, waiting, held, raw, filtered, link⟩ := scan setup
    exact ⟨tracks, inbox, sights, urgent, sightings, beacon, due, objects, spans, waiting, held, raw, filtered, link⟩

theorem State.queuesRest_of_same {s t : State} (mode : t.mode = s.mode) (tracks : t.tracks = s.tracks)
    (inbox : t.inbox = s.inbox) (tx : t.tx = s.tx) (rests : s.queuesRest) : t.queuesRest := by
  unfold State.queuesRest at rests ⊢
  rw [mode, tracks, inbox, tx]
  exact rests

theorem State.scanRests_of_same {s t : State} (mode : t.mode = s.mode) (scan : t.scan = s.scan)
    (sightings : t.localSightings = s.localSightings) (rests : s.scanRests) : t.scanRests := by
  unfold State.scanRests at rests ⊢
  rw [mode, scan, sightings]
  exact rests

/-- An empty slot stays empty when an entry is charged. -/
theorem State.chargeEntry_beacon {s : State} (a : Attempt) (none : s.tx.beacon = none) :
    (s.chargeEntry a).tx.beacon = Option.none := by
  unfold State.chargeEntry
  split
  · exact none
  · exact none
  next present =>
    dsimp only
    split
    · simp only [State.bump_keeps, Transmitter.dropEntry, present]
      cases a.source <;> simp [none]
    · simp only [Transmitter.setErrors]
      cases a.source <;> simp [none]

theorem List.eq_nil_of_length_le {α : Type} {xs ys : List α} (less : xs.length ≤ ys.length) (none : ys = []) : xs = [] :=
  List.eq_nil_of_length_eq_zero (Nat.le_zero.mp (by simpa [none] using less))

theorem State.breakAttempt_queuesRest (s : State) (a : Attempt) (rests : s.queuesRest) :
    ((s.breakFrame.chargeEntry a).countError).queuesRest := by
  intro setup
  have only := s.breakAttempt_only a
  obtain ⟨tracks, inbox, urgent, sightings, beacon, due⟩ := rests ((only .mode (by simp)).symm.trans setup)
  obtain ⟨us, ss, b, charged, lessUrgent, lessSightings, -⟩ := s.breakFrame.chargeEntry_tx a
  have slot : b = none := by
    have empty := State.chargeEntry_beacon (s := s.breakFrame) a beacon
    rwa [charged] at empty
  refine ⟨(only .tracks (by simp)).trans tracks, (only .inbox (by simp)).trans inbox, ?_⟩
  obtain ⟨-, counted⟩ | ⟨-, counted⟩ := (s.breakFrame.chargeEntry a).countError_tx
  · rw [counted, charged]
    exact ⟨List.eq_nil_of_length_le lessUrgent urgent, List.eq_nil_of_length_le lessSightings sightings, slot, due⟩
  · rw [counted, State.enterMute_tx, charged]
    exact ⟨rfl, rfl, rfl, due⟩

theorem State.completeAttempt_queuesRest (s : State) (a : Attempt) (l : LineLink) (sequence : Byte) (rests : s.queuesRest) :
    State.queuesRest { s with tx := { s.tx.dropEntry a with attempt := none, sequence := sequence, consecutive := 0 }
                              line := l } := by
  intro setup
  obtain ⟨tracks, inbox, urgent, sightings, beacon, due⟩ := rests setup
  obtain ⟨us, ss, b, dropped, lessUrgent, lessSightings, slot⟩ := s.tx.dropEntry_eq a
  rw [dropped]
  refine ⟨tracks, inbox, List.eq_nil_of_length_le lessUrgent.length_le urgent,
    List.eq_nil_of_length_le lessSightings.length_le sightings, ?_, due⟩
  exact slot.elim (·.trans beacon) id

theorem Move.keeps_queues {s t : State} (move : Move sights s t) (rests : s.queuesRest) : t.queuesRest := by
  have same {parts : List Part} (only : s.changesOnly t parts)
      (apart : ∀ p ∈ [Part.mode, .tracks, .inbox, .tx], p ∉ parts) : t.queuesRest :=
    State.queuesRest_of_same (only .mode (apart _ (by simp))) (only .tracks (apart _ (by simp)))
      (only .inbox (apart _ (by simp))) (only .tx (apart _ (by simp))) rests
  have unchanged (stays : s.mode = .setup → t = s) (mode : t.mode = s.mode) : t.queuesRest := by
    intro setup
    have setup' := mode.symm.trans setup
    rw [stays setup']
    exact rests setup'
  cases move with
  | aside only => exact same only (by simp)
  | enqueueUrgent u =>
    exact unchanged (fun setup => State.enqueueUrgent_of_setup setup u) (s.enqueueUrgent_only u .mode (by simp))
  | enqueueSighting x =>
    exact unchanged (fun setup => State.enqueueSighting_of_setup setup x) (s.enqueueSighting_only x .mode (by simp))
  | placeStatus => exact unchanged State.placeStatus_of_setup (s.placeStatus_only .mode (by simp))
  | begin => exact unchanged State.begin_of_setup (s.begin_only .mode (by simp))
  | breakAttempt a => exact s.breakAttempt_queuesRest a rests
  | completeAttempt a => exact s.completeAttempt_queuesRest a _ _ rests
  | beaconDue due runs =>
    intro setup
    obtain ⟨-, -, -, -, -, stopped⟩ := rests setup
    exact absurd stopped (runs setup)
  | inbox es short =>
    intro setup
    obtain ⟨tracks, inbox, others⟩ := rests setup
    obtain less | ⟨-, operating⟩ := short
    · exact ⟨tracks, List.eq_nil_of_length_le less inbox, others⟩
    · exact absurd setup operating
  | loseAttempt => exact fun setup => rests setup
  | remove id =>
    intro setup
    obtain ⟨tracks, others⟩ := rests setup
    refine ⟨?_, others⟩
    rw [State.removeTrack_tracks, tracks]
    rfl
  | change t f listed =>
    intro setup
    obtain ⟨tracks, -⟩ := rests setup
    simp [tracks] at listed
  | grant t f listed =>
    intro setup
    obtain ⟨tracks, -⟩ := rests ((s.granted_only t f.tClose _ .mode (by simp)).symm.trans setup)
    simp [tracks] at listed
  | make _ _ _ _ _ _ operating => exact fun setup => absurd setup operating
  | join t _ _ listed =>
    intro setup
    obtain ⟨tracks, -⟩ := rests setup
    simp [tracks] at listed
  | hold => exact nofun
  | release => exact nofun
  | start => exact nofun
  | _ => exact State.queuesRest_of_same (s := s) rfl rfl rfl rfl rests

theorem Works.keeps_queues {s t : State} (works : Works sights s t) (rests : s.queuesRest) : t.queuesRest :=
  works.keeps (fun _ _ => Move.keeps_queues) rests

/-! ## Scan unit and local sightings -/

/-- A chain of moves that leaves scan unit and local sightings alone. -/
theorem State.scanRests_of_works {s t : State} {ps : List Part} (works : Works sights s t) (only : s.changesOnly t ps)
    (apart : Part.scan ∉ ps ∧ Part.localSightings ∉ ps) (rests : s.scanRests) : t.scanRests := by
  intro setup
  rw [only .scan apart.1, only .localSightings apart.2]
  exact rests (works.setup setup)

/-- In SETUP at rest an exchange ends as a void one, with no scan waiting behind it. -/
theorem execExchangeComplete_scanRests {status : Byte} {mags : Vector Byte 32} {s t : State}
    (next : execExchangeComplete status mags s = .next t) (rests : s.scanRests) : t.scanRests := by
  intro setup
  obtain ⟨sightings, objects, spans, waiting, held, raw, filtered, link⟩ :=
    rests ((execExchangeComplete_works (sights := False) next).setup setup)
  obtain ⟨-, rfl⟩ | ⟨-, rfl⟩ := s.act_next t _ next
  · exact ⟨sightings, objects, spans, waiting, held, raw, filtered, link⟩
  · split
    · exact ⟨sightings, objects, spans, waiting, held, raw, filtered, link⟩
    next stamp ends void onWire =>
      split
      · have isVoid : void = true := by simpa [onWire, SampleLink.atRest] using link
        rw [waiting, isVoid]
        exact ⟨sightings, objects, spans, rfl, held, raw, filtered, rfl⟩
      · exact ⟨sightings, objects, spans, waiting, held, raw, filtered, link⟩

/-- In SETUP no sighting is taken. -/
theorem execLocalSightingTaken_scanRests {s t : State} (next : execLocalSightingTaken s = .next t) (rests : s.scanRests) :
    t.scanRests := by
  intro setup
  have before := (execLocalSightingTaken_works next).setup setup
  obtain ⟨-, rfl⟩ | ⟨-, rfl⟩ := s.act_next t _ next
  · exact rests before
  · split
    next operating _ => simp [State.operating, before] at operating
    · exact rests before

theorem State.started_operating (s : State) : s.started.mode ≠ .setup := by
  unfold State.started
  dsimp only
  refine (State.begin_works (sights := False) _).keeps_operating ?_
  refine (State.settleMode_works (sights := False) _).keeps_operating ?_
  refine (State.evaluateWatch_works (sights := False) _).keeps_operating ?_
  refine (State.startHalt_works (sights := False) _).keeps_operating ?_
  refine (Works.of (sights := False) .placeStatus).keeps_operating ?_
  exact (State.ownEntry_works (sights := False) _).keeps_operating nofun

/-- A START refused leaves the scan unit, and one accepted leaves SETUP. -/
theorem execStart_scanRests {s t : State} (next : execStart s = .next t) (rests : s.scanRests) : t.scanRests := by
  have answered (z : State) (status : PortStatus) (held : z.scanRests) : (z.answer status []).scanRests :=
    State.scanRests_of_same (s := z) rfl rfl rfl held
  obtain ⟨-, rfl⟩ | ⟨-, rfl⟩ := s.act_next t _ next
  · exact rests
  · split
    · exact answered _ _ rests
    · split
      · exact answered _ _ fun setup => absurd setup s.started_operating
      · exact answered _ _ rests

theorem State.advance_scanRests (s : State) (stamp : Time) (rests : s.scanRests) : (s.advance stamp).scanRests := by
  have counted : State.scanRests { s with belt := s.belt.advance stamp } := rests
  generalize advanced : ({ s with belt := s.belt.advance stamp } : State) = x at counted
  have phased : x.countPhase.scanRests := by
    by_cases setup : x.mode = .setup
    · have same : x.countPhase = x := by simp [State.countPhase, State.scans, State.operating, setup]
      rwa [same]
    · exact fun back => absurd ((x.countPhase_works (sights := False)).setup back) setup
  unfold State.advance
  rw [advanced]
  exact State.scanRests_of_works (State.beltEvents_works (sights := False) _ _) (State.beltEvents_only _ _) (by simp) phased

theorem State.through_scanRests {s : State} {o : Host.Outcome State Fault Refusal} (kept : ∀ t, o = .next t → t.scanRests)
    (rests : s.scanRests) : (s.through o).scanRests := by
  cases o with
  | next t => exact kept t rfl
  | fault => exact rests
  | refused => exact rests

theorem State.meet_scanRests (s : State) (e : Between) (rests : s.scanRests) : (s.meet e).scanRests := by
  have works := s.meet_works e
  have framed {o : Host.Outcome State Fault Refusal} {ps : List Part} (is : s.meet e = s.through o)
      (only : ∃ t, o = .next t ∧ s.changesOnly t ps) (apart : Part.scan ∉ ps ∧ Part.localSightings ∉ ps) :
      (s.meet e).scanRests := by
    refine State.scanRests_of_works works ?_ apart rests
    rw [is]
    exact s.through_only only fun _ h => h
  cases e with
  | portValue => exact State.scanRests_of_works works s.formValue_only (by simp) rests
  | exchangeComplete status mags =>
    exact State.through_scanRests (fun _ next => execExchangeComplete_scanRests next rests) rests
  | localSightingTaken => exact State.through_scanRests (fun _ next => execLocalSightingTaken_scanRests next rests) rests
  | start => exact State.through_scanRests (fun _ next => execStart_scanRests next rests) rests
  | lineIdle startEdge => exact framed rfl (execLineIdle_only s startEdge) (by simp)
  | startEdgeLatch => exact framed rfl (execStartEdgeLatch_only s) (by simp)
  | beaconDue => exact framed rfl (execBeaconDue_only s) (by simp)
  | monitorSample levels => exact framed rfl (execMonitorSample_only levels s) (by simp)
  | sightTaken => exact framed rfl (execSightTaken_only s) (by simp)
  | claimTaken => exact framed rfl (execClaimTaken_only s) (by simp)
  | firedTaken => exact framed rfl (execFiredTaken_only s) (by simp)
  | missedTaken => exact framed rfl (execMissedTaken_only s) (by simp)
  | tOpenDue => exact framed rfl (execTOpenDue_only s) (by simp)
  | haltAssert => exact framed rfl (execHaltAssert_only s) (by simp)
  | haltRelease => exact framed rfl (execHaltRelease_only s) (by simp)

theorem execEncoderEdge_scanRests {r f : Bool} {b : List (List Between)} {s t : State}
    (next : execEncoderEdge r f s b = .next t) (rests : s.scanRests) : t.scanRests := by
  obtain ⟨-, rfl⟩ | ⟨-, rfl⟩ := s.act_next t _ next
  · exact rests
  · split
    · split
      · rw [s.forwardEdge_eq]
        exact State.advances_induction (P := State.scanRests) s.belt.timebase (fun x held => x.advance_scanRests _ held)
          (fun x e held => x.meet_scanRests e held) s.edgeUnits s.gained b rests
      · exact rests
    · exact rests

/-! ## Both through every step -/

theorem State.warmRestart_setupAtRest (s : State) : s.warmRestart.setupAtRest := by
  intro _
  have atRest : s.scan.link.voided.atRest := by cases s.scan.link <;> rfl
  simp [State.warmRestart, Transmitter.restarted, ScanUnit.cleared, atRest]

/-- The scan unit rests through every command of a running part that is no restart. -/
theorem exec_scanRests {c : Instr} {s t : State} (next : exec c s = .next t) (running : isReset c = false)
    (rests : s.scanRests) (other : c ≠ .restart) : t.scanRests := by
  have only := exec_only next running
  have back (setup : t.mode = .setup) : s.mode = .setup := by
    by_contra operating
    cases exec_effect next with
    | works h => exact operating (h.setup setup)
    | edge _ between =>
      rw [s.forwardEdge_eq] at setup
      refine absurd setup (State.advances_keeps (P := fun x => x.mode ≠ .setup) _ (fun _ _ works => works.keeps_operating)
        (fun _ kept => kept) s.edgeUnits s.gained between operating)
    | write _ _ _ _ isSetup => exact operating isSetup
    | restart is => exact other is
    | clearFlags | clearTallies => exact operating setup
    | cold is => simp [running] at is
  have framed (apart : Part.scan ∉ commandParts c ∧ Part.localSightings ∉ commandParts c) : t.scanRests := by
    intro setup
    rw [only .scan apart.1, only .localSightings apart.2]
    exact rests (back setup)
  cases c with
  | encoderEdge r f b => exact execEncoderEdge_scanRests next rests
  | exchangeComplete => exact execExchangeComplete_scanRests next rests
  | localSightingTaken => exact execLocalSightingTaken_scanRests next rests
  | start => exact execStart_scanRests next rests
  | restart => exact absurd rfl other
  | resetAssert | coldStart => simp [isReset] at running
  | _ => exact framed (by simp [commandParts])

theorem Effect.keeps_queues {c : Instr} {s t : State} (effect : Effect c s t) (rests : s.queuesRest) : t.queuesRest := by
  have answered (z : State) (status : PortStatus) (rest : List Byte) (held : z.queuesRest) : (z.answer status rest).queuesRest :=
    State.queuesRest_of_same (s := z) rfl rfl rfl rfl held
  cases effect with
  | works h => exact h.keeps_queues rests
  | edge _ between =>
    rw [s.forwardEdge_eq]
    exact State.advances_keeps (P := State.queuesRest) s.belt.timebase (fun _ _ => Works.keeps_queues) (fun _ kept => kept)
      s.edgeUnits s.gained between rests
  | write offset count data =>
    exact answered _ _ _ ((s.writeRecord_works _ _).keeps_queues (State.queuesRest_of_same (s := s) rfl rfl rfl rfl rests))
  | restart => exact answered _ _ _ ((State.setupAtRest_iff _).mp s.warmRestart_setupAtRest).1
  | clearFlags | clearTallies => exact rests
  | cold => exact fun _ => ⟨rfl, rfl, rfl, rfl, rfl, rfl⟩

theorem State.cold_scanRests (straps : BitVec 5) (n : Nat) (queue : List Instr) (held : Bool) :
    State.scanRests { State.cold straps n queue with inReset := held } := fun _ => ⟨rfl, rfl, rfl, rfl, rfl, rfl, rfl, rfl⟩

theorem exec_setupAtRest {c : Instr} {s t : State} (next : exec c s = .next t) (rests : s.setupAtRest) : t.setupAtRest := by
  obtain ⟨queues, scan⟩ := s.setupAtRest_iff.mp rests
  refine t.setupAtRest_iff.mpr ⟨(exec_effect next).keeps_queues queues, ?_⟩
  cases reset : isReset c with
  | true =>
    cases c with
    | resetAssert => cases next; exact State.cold_scanRests _ _ _ true
    | coldStart straps => cases next; exact State.cold_scanRests _ _ _ false
    | _ => simp [isReset] at reset
  | false =>
    by_cases restart : c = .restart
    · subst restart
      change execRestart s = _ at next
      obtain ⟨-, rfl⟩ | ⟨-, rfl⟩ := s.act_next t _ next
      · exact scan
      · refine State.scanRests_of_same (State.answer_only _ _ _ .mode (by simp)) (State.answer_only _ _ _ .scan (by simp))
          (State.answer_only _ _ _ .localSightings (by simp)) ?_
        split
        · exact ((State.setupAtRest_iff _).mp s.warmRestart_setupAtRest).2
        · exact scan
    · exact exec_scanRests next reset scan restart

/-- Settles O9: in SETUP nothing is offered, taken or begun, and a restart leaves SETUP at rest. -/
theorem stepKeepsSetupAtRest : Obligations.StepKeepsSetupAtRest := by
  intro s t rests next
  have idles {x y : State} (only : x.changesOnly y idleParts) (held : x.setupAtRest) : y.setupAtRest := by
    obtain ⟨queues, scan⟩ := x.setupAtRest_iff.mp held
    exact y.setupAtRest_iff.mpr
      ⟨State.queuesRest_of_same (only .mode (by simp)) (only .tracks (by simp)) (only .inbox (by simp)) (only .tx (by simp)) queues,
        State.scanRests_of_same (only .mode (by simp)) (only .scan (by simp)) (only .localSightings (by simp)) scan⟩
  match queue : s.pending with
  | [] =>
    rw [step_idle s queue] at next
    cases next
    obtain tick | only := s.idle_effect
    · rw [tick]
      exact rests
    · exact idles only rests
  | c :: rest =>
    rw [step_front s c rest queue] at next
    exact exec_setupAtRest next rests

end Sys2Proof.Machine

/-! PROOF. Halt set, station state, own halt and own entry (R68, R72, R74, R77), and the four conditions (R81), through every step. -/

namespace Sys2Proof.Machine

variable {sights : Prop}

/-! ## The station state set again -/

theorem State.enterHeld_mode (s : State) : s.enterHeld.mode = .held := by
  rw [s.enterHeld_eq]
  rfl

/-- In operation the station state follows the halt set (R77). -/
theorem State.settleMode_mode (s : State) :
    s.settleMode.mode = if s.mode = .setup then .setup else if s.haltSet = 0 then .run else .held := by
  unfold State.settleMode
  cases mode : s.mode with
  | setup => exact mode
  | run =>
    simp only [reduceCtorEq, if_false]
    split
    · exact mode
    · exact s.enterHeld_mode
  | held =>
    simp only [reduceCtorEq, if_false]
    split
    · rfl
    · exact mode

theorem State.settleMode_operating (s : State) : s.settleMode.operating = s.operating := by
  unfold State.operating
  rw [s.settleMode_mode]
  split_ifs with setup empty
  · rw [setup]
  all_goals cases mode : s.mode <;> first | rfl | exact absurd mode setup

/-! ## The halt set -/

theorem State.inHaltSet_addHalt (s : State) {id : Nat} (k : Nat) (station : k < 24) :
    (s.addHalt id).inHaltSet k = (s.inHaltSet k || decide (k = id)) := by
  simp [State.inHaltSet, State.addHalt, station, eq_comm]

/-! ## The invariant -/

/-- Halt set, station state and own entry with this own halt. -/
def State.holdSoundFor (s : State) (own : Bool) : Prop :=
  (s.strapId.toNat < 24 → s.inHaltSet s.strapId.toNat = own) ∧ (s.operating → s.strapId.toNat < 24)
    ∧ ∀ i : Fin 24, i.val = s.strapId.toNat → s.peers[i] = if s.operating then Peer.own s.record own else Peer.cold

/-- RUN and HELD are those of the halt set. -/
def State.modeSound (s : State) : Prop := (s.mode = .run → s.haltSet = 0) ∧ (s.mode = .held → s.haltSet ≠ 0)

def State.holdSound (s : State) : Prop := s.modeSound ∧ s.holdSoundFor s.ownHalt

theorem State.holdSound_iff (s : State) : s.holdSound ↔ s.haltSound ∧ s.ownEntrySound := by
  unfold State.holdSound State.holdSoundFor State.modeSound
  constructor
  · rintro ⟨⟨run, held⟩, inSet, station, entry⟩
    exact ⟨⟨run, held, inSet, station⟩, entry⟩
  · rintro ⟨⟨run, held, inSet, station⟩, entry⟩
    exact ⟨⟨run, held⟩, inSet, station, entry⟩

/-- The parts it speaks of. -/
abbrev stationParts : List Part := [.strapId, .mode, .record, .peers, .haltSet]

theorem State.holdSoundFor_of_same {s t : State} {ps : List Part} {own : Bool} (only : s.changesOnly t ps)
    (apart : ∀ p ∈ stationParts, p ∉ ps) (sound : s.holdSoundFor own) : t.holdSoundFor own := by
  unfold State.holdSoundFor State.inHaltSet State.operating at sound ⊢
  rw [only .strapId (apart _ (by simp)), only .mode (apart _ (by simp)), only .record (apart _ (by simp)),
    only .peers (apart _ (by simp)), only .haltSet (apart _ (by simp))]
  exact sound

theorem State.modeSound_of_same {s t : State} {ps : List Part} (only : s.changesOnly t ps)
    (apart : ∀ p ∈ stationParts, p ∉ ps) (sound : s.modeSound) : t.modeSound := by
  unfold State.modeSound at sound ⊢
  rw [only .mode (apart _ (by simp)), only .haltSet (apart _ (by simp))]
  exact sound

theorem State.ownHalt_of_same {s t : State} {ps : List Part} (only : s.changesOnly t ps)
    (apart : ∀ p ∈ [Part.operatorHalt, .monitor], p ∉ ps) : t.ownHalt = s.ownHalt := by
  unfold State.ownHalt
  rw [only .operatorHalt (apart _ (by simp)), only .monitor (apart _ (by simp))]

/-- A change of other parts keeps it. -/
theorem State.holdSound_of_same {s t : State} {ps : List Part} (only : s.changesOnly t ps)
    (apart : ∀ p ∈ stationParts ++ [.operatorHalt, .monitor], p ∉ ps) (sound : s.holdSound) : t.holdSound := by
  obtain ⟨mode, entry⟩ := sound
  have own := State.ownHalt_of_same only fun p hp => apart p (List.mem_append_right _ hp)
  refine ⟨State.modeSound_of_same only (fun p hp => apart p (List.mem_append_left _ hp)) mode, own ▸ ?_⟩
  exact State.holdSoundFor_of_same only (fun p hp => apart p (List.mem_append_left _ hp)) entry

theorem State.settleMode_holdSoundFor {s : State} {own : Bool} (sound : s.holdSoundFor own) :
    s.settleMode.holdSoundFor own := by
  have only := s.settleMode_only
  unfold State.holdSoundFor State.inHaltSet at sound ⊢
  rw [s.settleMode_operating, only .strapId (by simp), only .record (by simp), only .peers (by simp), only .haltSet (by simp)]
  exact sound

theorem State.settleMode_modeSound (s : State) : s.settleMode.modeSound := by
  unfold State.modeSound
  rw [s.settleMode_mode, s.settleMode_only .haltSet (by simp)]
  by_cases setup : s.mode = .setup <;> by_cases empty : s.haltSet = 0 <;> simp [setup, empty]

/-- The station state set again after a change of other ids. -/
theorem State.settleMode_holdSound {s : State} (sound : s.holdSoundFor s.ownHalt) : s.settleMode.holdSound := by
  refine ⟨s.settleMode_modeSound, ?_⟩
  rw [State.ownHalt_of_same s.settleMode_only (by simp)]
  exact State.settleMode_holdSoundFor sound

/-! ## A change of the own halt -/

theorem State.ownFlag_holdSoundFor {s : State} {was : Bool} (on : Bool)
    (inSet : s.strapId.toNat < 24 → s.inHaltSet s.strapId.toNat = on) (station : s.operating → s.strapId.toNat < 24)
    (entry : ∀ i : Fin 24, i.val = s.strapId.toNat → s.peers[i] = if s.operating then Peer.own s.record was else Peer.cold) :
    (s.ownFlag on).holdSoundFor on := by
  have only := s.ownFlag_only on
  unfold State.holdSoundFor State.inHaltSet State.operating
  rw [only .strapId (by simp), only .haltSet (by simp), only .mode (by simp), only .record (by simp)]
  refine ⟨inSet, station, fun i isOwn => ?_⟩
  have outer : s.strapId.toNat < 24 := isOwn ▸ i.isLt
  have own : (⟨s.strapId.toNat, outer⟩ : Fin 24) = i := Fin.ext isOwn.symm
  unfold State.ownFlag
  rw [dif_pos outer, own]
  have before := entry i isOwn
  cases operating : s.operating with
  | false =>
    have is : (s.mode != .setup) = false := operating
    rw [operating, if_neg Bool.false_ne_true] at before
    rw [is, if_neg Bool.false_ne_true, if_neg Bool.false_ne_true]
    exact before
  | true =>
    rw [operating, if_pos rfl] at before
    have is : (s.mode != .setup) = true := operating
    rw [is, if_pos rfl, if_pos rfl]
    simp [State.updatePeer, before, Peer.own]

theorem State.ownHaltChanged_holdSound {s : State} {was : Bool} (cause : HaltCause) (mode : s.modeSound)
    (sound : s.holdSoundFor was) : (s.ownHaltChanged was cause).holdSound := by
  unfold State.ownHaltChanged
  split
  next same => exact ⟨mode, same ▸ sound⟩
  · obtain ⟨inSet, station, entry⟩ := sound
    have offered {x : State} {own : Bool} (u : Urgent) (held : x.holdSoundFor own) : ((x.offer u).settleMode).holdSoundFor own :=
      State.settleMode_holdSoundFor (State.holdSoundFor_of_same (x.offer_only u) (by simp) held)
    have settled {x : State} {ps : List Part} {own : Bool} (u : Urgent) (only : s.changesOnly x ps)
        (apart : ∀ p ∈ [Part.operatorHalt, .monitor], p ∉ ps) (is : s.ownHalt = own) (held : x.holdSoundFor own) :
        (x.offer u).settleMode.holdSound := by
      refine State.settleMode_holdSound ?_
      rw [State.ownHalt_of_same (x.offer_only u) (by simp), State.ownHalt_of_same only apart, is]
      exact State.holdSoundFor_of_same (x.offer_only u) (by simp) held
    split
    next asserted =>
      refine settled (ps := [.haltSet, .peers]) _ ((s.addHalt_only _).then (State.ownFlag_only _ _) (by simp) (by simp)) (by simp)
        asserted ?_
      refine State.ownFlag_holdSoundFor (was := was) true (fun outer => ?_) station entry
      exact (s.inHaltSet_addHalt _ outer).trans (by simp)
    next released =>
      refine settled (ps := [.haltSet, .peers]) _ ((s.removeHalt_only _).then (State.ownFlag_only _ _) (by simp) (by simp))
        (by simp) (by simpa using released) ?_
      refine State.ownFlag_holdSoundFor (was := was) false (fun outer => ?_) station entry
      exact (s.inHaltSet_removeHalt _ _ outer).trans (by simp)

theorem State.setOperator_holdSound {s : State} (on : Bool) (sound : s.holdSound) : (s.setOperator on).holdSound :=
  State.ownHaltChanged_holdSound .operator sound.1 sound.2

/-- A change of the monitor that leaves door and stop. -/
theorem State.setMonitor_holdSound {s : State} (m : Monitor) (door : m.doorOpen = s.monitor.doorOpen)
    (stop : m.stopRequested = s.monitor.stopRequested) (sound : s.holdSound) : State.holdSound { s with monitor := m } := by
  obtain ⟨mode, entry⟩ := sound
  have own : State.ownHalt { s with monitor := m } = s.ownHalt := by simp [State.ownHalt, door, stop]
  exact ⟨mode, own.symm ▸ entry⟩

theorem State.setAir_holdSound {s : State} (low : Bool) (sound : s.holdSound) : (s.setAir low).holdSound := by
  have set := State.setMonitor_holdSound { s.monitor with airLow := low } rfl rfl sound
  unfold State.setAir
  dsimp only
  split
  · exact State.holdSound_of_same (State.raise_only _ _) (by simp) set
  · exact set

theorem State.setChute_holdSound {s : State} (notReady : Bool) (sound : s.holdSound) : (s.setChute notReady).holdSound := by
  have set := State.setMonitor_holdSound { s.monitor with chuteNotReady := notReady } rfl rfl sound
  unfold State.setChute
  dsimp only
  split
  · exact State.holdSound_of_same (State.raise_only _ _) (by simp) set
  · exact set

theorem State.setDoor_holdSound {s : State} (isOpen : Bool) (sound : s.holdSound) : (s.setDoor isOpen).holdSound :=
  State.ownHaltChanged_holdSound .door sound.1 sound.2

theorem State.setStop_holdSound {s : State} (requested : Bool) (sound : s.holdSound) : (s.setStop requested).holdSound :=
  State.ownHaltChanged_holdSound .stop sound.1 sound.2

theorem State.setDoorStop_holdSound {s : State} (isOpen requested : Bool) (sound : s.holdSound) :
    (s.setDoorStop isOpen requested).holdSound := by
  have counted : State.holdSound { s with freeCount := s.freeCount + 1 } := sound
  unfold State.setDoorStop
  dsimp only
  split
  · split
    · exact State.setStop_holdSound _ (State.setDoor_holdSound _ counted)
    · exact State.setDoor_holdSound _ (State.setStop_holdSound _ counted)
  · exact State.setStop_holdSound _ (State.setDoor_holdSound _ sound)

theorem State.evaluateConditions_holdSound {s : State} (sound : s.holdSound) : s.evaluateConditions.holdSound :=
  State.setDoorStop_holdSound _ _ (State.setChute_holdSound _ (State.setAir_holdSound _ sound))

/-- Of the monitor unit an evaluation of the watch changes the watch alone (R84). -/
theorem State.evaluateWatch_monitor (s : State) : ∃ w, s.evaluateWatch.monitor = { s.monitor with watch := w } := by
  unfold State.evaluateWatch
  split <;> exact ⟨_, rfl⟩

theorem State.evaluateWatch_holdSound {s : State} (sound : s.holdSound) : s.evaluateWatch.holdSound := by
  have only := s.evaluateWatch_only
  obtain ⟨w, monitor⟩ := s.evaluateWatch_monitor
  have own : s.evaluateWatch.ownHalt = s.ownHalt := by
    unfold State.ownHalt
    rw [monitor, only .operatorHalt (by simp)]
  obtain ⟨mode, entry⟩ := sound
  exact ⟨State.modeSound_of_same only (by simp) mode, own ▸ State.holdSoundFor_of_same only (by simp) entry⟩

/-! ## The monitor unit after an evaluation -/

/-- An evaluation sets each condition to what the accepted levels give under the record (R81). -/
theorem State.evaluateConditions_monitor (s : State) :
    s.evaluateConditions.monitor =
      { s.monitor with
        airLow := s.record.anyInput s.monitor.accepted .airOk false
        doorOpen := s.record.anyInput s.monitor.accepted .doorClosed false
        chuteNotReady := s.record.anyInput s.monitor.accepted .chuteReady false
        stopRequested := s.record.anyInput s.monitor.accepted .stopRequest true } := by
  have air (x : State) (low : Bool) : (x.setAir low).monitor = { x.monitor with airLow := low } := by
    unfold State.setAir
    dsimp only
    split <;> rfl
  have chute (x : State) (no : Bool) : (x.setChute no).monitor = { x.monitor with chuteNotReady := no } := by
    unfold State.setChute
    dsimp only
    split <;> rfl
  have changed (x : State) (was : Bool) (cause : HaltCause) : (x.ownHaltChanged was cause).monitor = x.monitor :=
    x.ownHaltChanged_only was cause .monitor (by simp)
  have door (x : State) (open_ : Bool) : (x.setDoor open_).monitor = { x.monitor with doorOpen := open_ } := changed _ _ _
  have stop (x : State) (asked : Bool) : (x.setStop asked).monitor = { x.monitor with stopRequested := asked } := changed _ _ _
  have both (x : State) (open_ asked : Bool) :
      (x.setDoorStop open_ asked).monitor = { x.monitor with doorOpen := open_, stopRequested := asked } := by
    unfold State.setDoorStop
    dsimp only
    split
    · split <;> simp only [door, stop]
    · simp only [door, stop]
  unfold State.evaluateConditions
  simp only [both, chute, air]

theorem State.evaluateConditions_conditionsSound (s : State) : s.evaluateConditions.conditionsSound := by
  unfold State.conditionsSound
  rw [s.evaluateConditions_monitor, s.evaluateConditions_only .record (by simp)]
  exact ⟨rfl, rfl, rfl, rfl⟩

theorem State.conditionsSound_of_same {s t : State} {ps : List Part} (only : s.changesOnly t ps)
    (apart : ∀ p ∈ [Part.record, .monitor], p ∉ ps) (sound : s.conditionsSound) : t.conditionsSound := by
  unfold State.conditionsSound at sound ⊢
  rw [only .record (apart _ (by simp)), only .monitor (apart _ (by simp))]
  exact sound

theorem State.evaluateWatch_conditionsSound {s : State} (sound : s.conditionsSound) : s.evaluateWatch.conditionsSound := by
  obtain ⟨w, monitor⟩ := s.evaluateWatch_monitor
  unfold State.conditionsSound at sound ⊢
  rw [s.evaluateWatch_only .record (by simp), monitor]
  exact sound

end Sys2Proof.Machine

/-! PROOF. Halt set and own entry (R68, R72, R77), and the conditions (R81), through every command and every step. -/

namespace Sys2Proof.Machine

/-! ## Frames of other stations -/

/-- A change of another station's entry. -/
theorem State.updatePeer_holdSoundFor {s : State} {own : Bool} {id : Fin 24} (other : id.val ≠ s.strapId.toNat)
    (f : Peer → Peer) (sound : s.holdSoundFor own) : (s.updatePeer id f).holdSoundFor own := by
  obtain ⟨inSet, station, entry⟩ := sound
  refine ⟨inSet, station, fun i isOwn => ?_⟩
  have apart : id.val ≠ i.val := fun same => other (same.trans isOwn)
  have kept : (s.updatePeer id f).peers[i] = s.peers[i] := by
    simp [State.updatePeer, apart]
  rw [kept]
  exact entry i isOwn

theorem State.updatePeer_holdSound {s : State} {id : Fin 24} (other : id.val ≠ s.strapId.toNat) (f : Peer → Peer)
    (sound : s.holdSound) : (s.updatePeer id f).holdSound :=
  ⟨sound.1, State.updatePeer_holdSoundFor other f sound.2⟩

theorem State.peerHalt_holdSound {s : State} {id : Fin 24} (on : Bool) (other : id.val ≠ s.strapId.toNat)
    (sound : s.holdSound) : (s.peerHalt id on).holdSound := by
  have flagged := State.updatePeer_holdSound other (fun p => { p with haltFlag := on }) sound
  unfold State.peerHalt
  dsimp only
  generalize updated : s.updatePeer id (fun p => { p with haltFlag := on }) = x at flagged
  have strap : x.strapId = s.strapId := updated ▸ rfl
  obtain ⟨-, inSet, station, entry⟩ := flagged
  have apart : x.strapId.toNat ≠ id.val := strap ▸ other.symm
  split
  · refine State.settleMode_holdSound ⟨fun outer => ?_, station, entry⟩
    rw [← show x.ownHalt = (x.addHalt id.val).ownHalt from rfl, ← inSet outer]
    exact (x.inHaltSet_addHalt _ outer).trans (by simp [apart])
  · refine State.settleMode_holdSound ⟨fun outer => ?_, station, entry⟩
    rw [← show x.ownHalt = (x.removeHalt id.val).ownHalt from rfl, ← inSet outer]
    exact (x.inHaltSet_removeHalt _ _ outer).trans (by simp [apart])

theorem State.hearPeer_holdSound {s : State} {id : Fin 24} (sequence : Byte) (other : id.val ≠ s.strapId.toNat)
    (sound : s.holdSound) : (s.hearPeer id sequence).holdSound := by
  have only := s.countGap_only ((s.peers[id]).gap sequence)
  have counted := State.holdSound_of_same only (by simp) sound
  exact State.updatePeer_holdSound ((only .strapId (by simp)) ▸ other) _ counted

theorem State.route_holdSound {s : State} {id : Fin 24} (b : Body) (other : id.val ≠ s.strapId.toNat) (sound : s.holdSound) :
    (s.route id b).holdSound := by
  unfold State.route
  split
  · exact State.peerHalt_holdSound _ other sound
  · exact State.peerHalt_holdSound _ other (State.updatePeer_holdSound other _ sound)
  all_goals exact State.holdSound_of_same (s.offerInbox_only _) (by simp) sound

theorem State.acceptedFrame_holdSound {s : State} (own : Bool) (f : WireFrame) (b : Body) (sound : s.holdSound) :
    (s.acceptedFrame own f b).holdSound := by
  unfold State.acceptedFrame
  split
  · exact State.holdSound_of_same (s.offerCopy_only _ _) (by simp) sound
  · split
    · exact State.holdSound_of_same ((s.bump_only _).then (State.raise_only _ _) (rs := [.tallies, .flags]) (by simp) (by simp))
        (by simp) sound
    next foreign =>
      split
      next station =>
        have other : f.sender.toNat ≠ s.strapId.toNat := fun same => foreign (BitVec.eq_of_toNat_eq same)
        have heard := State.hearPeer_holdSound (id := ⟨f.sender.toNat, station⟩) f.sequence other sound
        refine State.holdSound_of_same (State.offerCopy_only _ _ _) (by simp) (State.route_holdSound b ?_ heard)
        rw [s.hearPeer_only _ _ .strapId (by simp)]
        exact other
      · exact sound

theorem execFrameReceived_holdSound {f : WireFrame} {s t : State} (next : execFrameReceived f s = .next t)
    (sound : s.holdSound) : t.holdSound := by
  have ended : s.endFrame.holdSound := State.holdSound_of_same s.endFrame_only (by simp) sound
  obtain ⟨-, rfl⟩ | ⟨-, rfl⟩ := s.act_next t _ next
  · exact sound
  · split
    · split
      · exact State.holdSound_of_same (State.bump_only _ _) (by simp) ended
      · exact State.acceptedFrame_holdSound _ _ _ ended
    · exact State.holdSound_of_same (State.bump_only _ _) (by simp) ended
    all_goals exact sound

/-- The own entry has no loss due time, so a peer lost is another station (R70). -/
theorem execPeerLossDue_holdSound {id : Fin 24} {s t : State} (next : execPeerLossDue id s = .next t) (sound : s.holdSound) :
    t.holdSound := by
  obtain ⟨-, rfl⟩ | ⟨-, rfl⟩ := s.act_next t _ next
  · exact sound
  · split
    · exact sound
    next due lossDue =>
      split
      · have other : id.val ≠ s.strapId.toNat := by
          intro isOwn
          obtain ⟨-, -, -, entry⟩ := sound
          have own := entry id isOwn
          rw [own] at lossDue
          split at lossDue <;> cases lossDue
        refine State.holdSound_of_same (ps := [.tallies, .flags]) ?_ (by simp) (State.updatePeer_holdSound other
          (fun p => { p with state := .lost, lossDue := none }) sound)
        exact (State.bump_only _ _).then (State.raise_only _ _) (by simp) (by simp)
      · exact sound

theorem execClearHalt_holdSound {id : Byte} {s t : State} (next : execClearHalt id s = .next t) (sound : s.holdSound) :
    t.holdSound := by
  obtain ⟨-, rfl⟩ | ⟨-, rfl⟩ := s.act_next t _ next
  · exact sound
  · split
    · exact State.holdSound_of_same (s.answer_only _ _) (by simp) sound
    next taken =>
      rw [s.clearRefused_iff] at taken
      simp only [not_or] at taken
      obtain ⟨-, notOwn, -⟩ := taken
      obtain ⟨-, inSet, station, entry⟩ := sound
      refine State.holdSound_of_same (State.answer_only _ _ _) (by simp) (State.settleMode_holdSound ⟨fun outer => ?_, station, entry⟩)
      rw [← show s.ownHalt = (s.removeHalt id.toNat).ownHalt from rfl, ← inSet outer]
      exact (s.inHaltSet_removeHalt _ _ outer).trans (by simp [Ne.symm notOwn])

/-! ## Monitor sample, START, restart and WRITE-CONFIG -/

theorem State.sampleInputs_holdSound {s : State} (levels : Byte) (sound : s.holdSound) : (s.sampleInputs levels).holdSound := by
  unfold State.sampleInputs
  exact State.setMonitor_holdSound _ rfl rfl sound

theorem execMonitorSample_holdSound {levels : Byte} {s t : State} (next : execMonitorSample levels s = .next t)
    (sound : s.holdSound) : t.holdSound := by
  have evaluated := State.evaluateConditions_holdSound (State.sampleInputs_holdSound levels sound)
  obtain ⟨-, rfl⟩ | ⟨-, rfl⟩ := s.act_next t _ next
  · exact sound
  · split
    · dsimp only
      split
      · exact State.evaluateWatch_holdSound evaluated
      · exact evaluated
    · exact sound

theorem State.station_of_startStatus {s : State} (ok : s.startStatus = .ok) : s.strapId.toNat < 24 := by
  unfold State.startStatus at ok
  split at ok
  · cases ok
  next station => exact Nat.lt_of_not_le station

/-- The part at an accepted START, before the own entry is made (R173). -/
def State.begun (s : State) : State :=
  { s with
    mode := .run
    belt := { s.belt with scanPhase := 0 }
    scan := { s.scan.cleared with serial := 0 }
    tx := { s.tx with beaconDue := some (s.belt.timebase + BitVec.ofNat 32 s.record.beaconInterval) }
    monitor := { s.monitor with watch := .waiting } }

theorem State.started_eq (s : State) :
    s.started = ((s.begun.ownEntry.placeStatus.startHalt.evaluateWatch).settleMode).begin := rfl

theorem State.ownEntry_holdSoundFor {s : State} (station : s.strapId.toNat < 24) (operating : s.operating)
    (inSet : s.inHaltSet s.strapId.toNat = s.ownHalt) : s.ownEntry.holdSoundFor s.ownHalt := by
  unfold State.ownEntry
  rw [dif_pos station]
  refine ⟨fun _ => inSet, fun _ => station, fun i isOwn => ?_⟩
  have own : (⟨s.strapId.toNat, station⟩ : Fin 24) = i := Fin.ext isOwn.symm
  rw [own, if_pos (show (s.updatePeer i fun _ => Peer.own s.record s.ownHalt).operating from operating)]
  simp [State.updatePeer]

/-- START with its checks passed makes the own entry and sets the station state by the halt set (R68, R77, R173). -/
theorem State.started_holdSound {s : State} (station : s.strapId.toNat < 24)
    (inSet : s.inHaltSet s.strapId.toNat = s.ownHalt) : s.started.holdSound := by
  have described : s.begun.ownEntry.holdSoundFor s.begun.ownHalt := State.ownEntry_holdSoundFor station rfl inSet
  rw [s.started_eq]
  generalize s.begun = x at described
  refine State.holdSound_of_same (State.begin_only _) (by simp) (State.settleMode_holdSound ?_)
  obtain ⟨w, monitor⟩ := State.evaluateWatch_monitor x.ownEntry.placeStatus.startHalt
  have only : x.changesOnly x.ownEntry.placeStatus.startHalt [.peers, .tx, .tallies] :=
    x.ownEntry_only.then ((State.placeStatus_only _).trans (State.startHalt_only _)) (by simp) (by simp)
  have watched : x.changesOnly x.ownEntry.placeStatus.startHalt.evaluateWatch [.peers, .tx, .tallies, .monitor, .flags] :=
    only.then (State.evaluateWatch_only _) (by simp) (by simp)
  have same : x.ownEntry.placeStatus.startHalt.evaluateWatch.ownHalt = x.ownHalt := by
    unfold State.ownHalt
    rw [monitor, watched .operatorHalt (by simp), only .monitor (by simp)]
  rw [same]
  refine State.holdSoundFor_of_same (ps := [.tx, .tallies, .monitor, .flags]) ?_ (by simp) described
  exact ((State.placeStatus_only _).trans (State.startHalt_only _)).then (State.evaluateWatch_only _) (by simp) (by simp)

theorem execStart_holdSound {s t : State} (next : execStart s = .next t) (sound : s.holdSound) : t.holdSound := by
  have answered (z : State) (status : PortStatus) (held : z.holdSound) : (z.answer status []).holdSound :=
    State.holdSound_of_same (z.answer_only _ _) (by simp) held
  obtain ⟨-, rfl⟩ | ⟨-, rfl⟩ := s.act_next t _ next
  · exact sound
  · split
    · exact answered _ _ sound
    · split
      next ok =>
        obtain ⟨-, inSet, -⟩ := sound
        have station := State.station_of_startStatus ok
        exact answered _ _ (State.started_holdSound station (inSet station))
      · exact answered _ _ sound

theorem State.warmRestart_holdSound (s : State) : s.warmRestart.holdSound := by
  have setup : s.warmRestart.mode = .setup := by simp [State.warmRestart]
  have strap : s.warmRestart.strapId = s.strapId := s.warmRestart_only .strapId (by simp)
  have peers : s.warmRestart.peers = Vector.replicate 24 Peer.cold := by simp [State.warmRestart]
  have own : s.warmRestart.ownHalt = s.ownHalt := by simp [State.warmRestart, State.ownHalt]
  have halts : s.warmRestart.haltSet = if s.ownHalt then BitVec.twoPow 24 s.strapId.toNat else 0 := by simp [State.warmRestart]
  have rests : ¬ s.warmRestart.operating := by simp [State.operating, setup]
  refine ⟨⟨fun run => absurd (setup.symm.trans run) (by simp), fun held => absurd (setup.symm.trans held) (by simp)⟩,
    fun outer => ?_, fun operating => absurd operating rests, fun i _ => ?_⟩
  · rw [strap] at outer ⊢
    rw [own, State.inHaltSet, halts]
    cases s.ownHalt <;> simp [outer]
  · rw [peers, if_neg rests]
    simp

/-- In SETUP the record does not enter: the own entry is cold. -/
theorem State.holdSound_of_setup {s t : State} {ps : List Part} (only : s.changesOnly t ps)
    (apart : ∀ p ∈ [Part.strapId, .mode, .peers, .haltSet, .operatorHalt, .monitor], p ∉ ps) (setup : s.mode = .setup)
    (sound : s.holdSound) : t.holdSound := by
  have rests : ¬ s.operating := by simp [State.operating, setup]
  have mode := only .mode (apart _ (by simp))
  have same : t.operating = s.operating := by unfold State.operating; rw [mode]
  obtain ⟨⟨run, held⟩, inSet, station, entry⟩ := sound
  unfold State.holdSound State.holdSoundFor State.modeSound State.inHaltSet
  rw [State.ownHalt_of_same only fun p hp => apart p (by simp at hp ⊢; tauto), same, mode, only .strapId (apart _ (by simp)),
    only .peers (apart _ (by simp)), only .haltSet (apart _ (by simp))]
  refine ⟨⟨run, held⟩, inSet, station, fun i isOwn => ?_⟩
  rw [entry i isOwn, if_neg rests, if_neg rests]

theorem State.setRecordBelt_only (s : State) (r : Record) (b : Belt) :
    s.changesOnly { s with record := r, belt := b } [.record, .belt] := by
  intro p hp
  cases p <;> first | rfl | simp at hp

theorem State.writeRecord_holdSound {s : State} (offset : Nat) (data : List Byte) (setup : s.mode = .setup)
    (sound : s.holdSound) : (s.writeRecord offset data).holdSound := by
  have written := State.holdSound_of_setup (s.setRecordBelt_only (s.record.write offset data)
    (s.belt.repitch s.record (s.record.write offset data))) (by simp) setup sound
  unfold State.writeRecord
  dsimp only
  split
  · exact State.evaluateConditions_holdSound written
  · exact written

/-! ## Through an edge -/

theorem State.through_keeps {P : State → Prop} {s : State} {o : Host.Outcome State Fault Refusal}
    (kept : ∀ t, o = .next t → P t) (held : P s) : P (s.through o) := by
  cases o with
  | next t => exact kept t rfl
  | fault => exact held
  | refused => exact held

theorem execHalt_holdSound {s t : State} (on : Bool) (next : (s.act fun s => (s.setOperator on).answer .ok []) = .next t)
    (sound : s.holdSound) : t.holdSound := by
  obtain ⟨-, rfl⟩ | ⟨-, rfl⟩ := s.act_next t _ next
  · exact sound
  · exact State.holdSound_of_same (State.answer_only _ _ _) (by simp) (State.setOperator_holdSound on sound)

theorem State.meet_holdSound (s : State) (e : Between) (sound : s.holdSound) : (s.meet e).holdSound := by
  have framed {o : Host.Outcome State Fault Refusal} {ps : List Part} (is : s.meet e = s.through o)
      (only : ∃ t, o = .next t ∧ s.changesOnly t ps) (apart : ∀ p ∈ stationParts ++ [.operatorHalt, .monitor], p ∉ ps) :
      (s.meet e).holdSound := by
    refine State.holdSound_of_same ?_ apart sound
    rw [is]
    exact s.through_only only fun _ h => h
  cases e with
  | portValue => exact State.holdSound_of_same s.formValue_only (by simp) sound
  | monitorSample levels => exact State.through_keeps (fun _ next => execMonitorSample_holdSound next sound) sound
  | start => exact State.through_keeps (fun _ next => execStart_holdSound next sound) sound
  | haltAssert => exact State.through_keeps (fun _ next => execHalt_holdSound true next sound) sound
  | haltRelease => exact State.through_keeps (fun _ next => execHalt_holdSound false next sound) sound
  | exchangeComplete status mags => exact framed rfl (execExchangeComplete_only status mags s) (by simp)
  | localSightingTaken => exact framed rfl (execLocalSightingTaken_only s) (by simp)
  | lineIdle startEdge => exact framed rfl (execLineIdle_only s startEdge) (by simp)
  | startEdgeLatch => exact framed rfl (execStartEdgeLatch_only s) (by simp)
  | beaconDue => exact framed rfl (execBeaconDue_only s) (by simp)
  | sightTaken => exact framed rfl (execSightTaken_only s) (by simp)
  | claimTaken => exact framed rfl (execClaimTaken_only s) (by simp)
  | firedTaken => exact framed rfl (execFiredTaken_only s) (by simp)
  | missedTaken => exact framed rfl (execMissedTaken_only s) (by simp)
  | tOpenDue => exact framed rfl (execTOpenDue_only s) (by simp)

/-- What advances and events keep, an edge keeps. -/
theorem execEncoderEdge_keeps {P : State → Prop} {r f : Bool} {b : List (List Between)} {s t : State}
    (next : execEncoderEdge r f s b = .next t) (held : P s) (gains : P s → P s.gained) (reverses : P s → P s.reverseEdge)
    (advance : ∀ x : State, P x → P (x.advance s.belt.timebase)) (meet : ∀ (x : State) (e : Between), P x → P (x.meet e)) :
    P t := by
  obtain ⟨-, rfl⟩ | ⟨-, rfl⟩ := s.act_next t _ next
  · exact held
  · split
    · split
      · rw [s.forwardEdge_eq]
        exact State.advances_induction (P := P) s.belt.timebase advance meet s.edgeUnits s.gained b (gains held)
      · exact reverses held
    · exact held

theorem State.reverseEdge_only (s : State) : s.changesOnly s.reverseEdge [.tallies, .flags] :=
  (s.bump_only _).then (State.raise_only _ _) (by simp) (by simp)

/-! ## Halt set and own entry -/

theorem exec_holdSound {c : Instr} {s t : State} (next : exec c s = .next t) (sound : s.holdSound) : t.holdSound := by
  have cold (straps : BitVec 5) (n : Nat) (queue : List Instr) (held : Bool) :
      State.holdSound { State.cold straps n queue with inReset := held } := by
    refine ⟨⟨nofun, nofun⟩, fun _ => ?_, nofun, fun i _ => ?_⟩
    · simp [State.inHaltSet, State.cold, State.ownHalt, Monitor.cold]
    · simp [State.cold, State.operating]
  cases c with
  | encoderEdge r f b =>
    exact execEncoderEdge_keeps next sound id (State.holdSound_of_same s.reverseEdge_only (by simp))
      (fun x held => State.holdSound_of_same (x.advance_only _) (by simp) held) State.meet_holdSound
  | frameReceived => exact execFrameReceived_holdSound next sound
  | peerLossDue => exact execPeerLossDue_holdSound next sound
  | monitorSample => exact execMonitorSample_holdSound next sound
  | start => exact execStart_holdSound next sound
  | haltAssert => exact execHalt_holdSound true next sound
  | haltRelease => exact execHalt_holdSound false next sound
  | clearHalt => exact execClearHalt_holdSound next sound
  | writeConfig offset count data =>
    have answered (z : State) (status : PortStatus) (rest : List Byte) (held : z.holdSound) : (z.answer status rest).holdSound :=
      State.holdSound_of_same (z.answer_only _ _) (by simp) held
    change execWriteConfig offset count data s = _ at next
    obtain ⟨-, rfl⟩ | ⟨-, rfl⟩ := s.act_next t _ next
    · exact sound
    · split
      · exact State.holdSound_of_same s.dropResponse_only (by simp) sound
      · split
        · exact answered _ _ _ sound
        next rests =>
          exact answered _ _ _ (State.writeRecord_holdSound _ _ (by simpa [State.operating] using rests) sound)
  | restart =>
    change execRestart s = _ at next
    obtain ⟨-, rfl⟩ | ⟨-, rfl⟩ := s.act_next t _ next
    · exact sound
    · refine State.holdSound_of_same (State.answer_only _ _ _) (by simp) ?_
      split
      · exact s.warmRestart_holdSound
      · exact sound
  | resetAssert => cases next; exact cold _ _ _ true
  | coldStart straps => cases next; exact cold _ _ _ false
  | _ => exact State.holdSound_of_same (exec_only next rfl) (by simp [commandParts]) sound

/-- Settles O10: the own id follows the own halt at each of its changes, the ids of others leave it, and the station state is set
again after each. -/
theorem stepKeepsHaltSetAndOwnEntry : Obligations.StepKeepsHaltSetAndOwnEntry := by
  intro s t halts entry next
  have sound := s.holdSound_iff.mpr ⟨halts, entry⟩
  refine t.holdSound_iff.mp ?_
  match queue : s.pending with
  | [] =>
    rw [step_idle s queue] at next
    cases next
    obtain tick | only := s.idle_effect
    · rw [tick]
      exact sound
    · exact State.holdSound_of_same only (by simp) sound
  | c :: rest =>
    rw [step_front s c rest queue] at next
    exact exec_holdSound next sound

/-! ## The conditions -/

theorem execMonitorSample_conditionsSound {levels : Byte} {s t : State} (next : execMonitorSample levels s = .next t)
    (sound : s.conditionsSound) : t.conditionsSound := by
  obtain ⟨-, rfl⟩ | ⟨-, rfl⟩ := s.act_next t _ next
  · exact sound
  · split
    · dsimp only
      split
      · exact State.evaluateWatch_conditionsSound (State.evaluateConditions_conditionsSound _)
      · exact State.evaluateConditions_conditionsSound _
    · exact sound

theorem State.started_conditionsSound {s : State} (sound : s.conditionsSound) : s.started.conditionsSound := by
  have begun : s.begun.conditionsSound := sound
  rw [s.started_eq]
  generalize s.begun = x at begun
  refine State.conditionsSound_of_same (State.begin_only _) (by simp) ?_
  refine State.conditionsSound_of_same (State.settleMode_only _) (by simp) (State.evaluateWatch_conditionsSound ?_)
  refine State.conditionsSound_of_same (State.startHalt_only _) (by simp) ?_
  refine State.conditionsSound_of_same (State.placeStatus_only _) (by simp) ?_
  exact State.conditionsSound_of_same (State.ownEntry_only _) (by simp) begun

theorem execStart_conditionsSound {s t : State} (next : execStart s = .next t) (sound : s.conditionsSound) :
    t.conditionsSound := by
  have answered (z : State) (status : PortStatus) (held : z.conditionsSound) : (z.answer status []).conditionsSound :=
    State.conditionsSound_of_same (z.answer_only _ _) (by simp) held
  obtain ⟨-, rfl⟩ | ⟨-, rfl⟩ := s.act_next t _ next
  · exact sound
  · split
    · exact answered _ _ sound
    · split
      · exact answered _ _ (State.started_conditionsSound sound)
      · exact answered _ _ sound

theorem State.meet_conditionsSound (s : State) (e : Between) (sound : s.conditionsSound) : (s.meet e).conditionsSound := by
  have framed {o : Host.Outcome State Fault Refusal} {ps : List Part} (is : s.meet e = s.through o)
      (only : ∃ t, o = .next t ∧ s.changesOnly t ps) (apart : ∀ p ∈ [Part.record, .monitor], p ∉ ps) :
      (s.meet e).conditionsSound := by
    refine State.conditionsSound_of_same ?_ apart sound
    rw [is]
    exact s.through_only only fun _ h => h
  cases e with
  | portValue => exact State.conditionsSound_of_same s.formValue_only (by simp) sound
  | monitorSample levels => exact State.through_keeps (fun _ next => execMonitorSample_conditionsSound next sound) sound
  | start => exact State.through_keeps (fun _ next => execStart_conditionsSound next sound) sound
  | haltAssert => exact framed rfl (execHaltAssert_only s) (by simp)
  | haltRelease => exact framed rfl (execHaltRelease_only s) (by simp)
  | exchangeComplete status mags => exact framed rfl (execExchangeComplete_only status mags s) (by simp)
  | localSightingTaken => exact framed rfl (execLocalSightingTaken_only s) (by simp)
  | lineIdle startEdge => exact framed rfl (execLineIdle_only s startEdge) (by simp)
  | startEdgeLatch => exact framed rfl (execStartEdgeLatch_only s) (by simp)
  | beaconDue => exact framed rfl (execBeaconDue_only s) (by simp)
  | sightTaken => exact framed rfl (execSightTaken_only s) (by simp)
  | claimTaken => exact framed rfl (execClaimTaken_only s) (by simp)
  | firedTaken => exact framed rfl (execFiredTaken_only s) (by simp)
  | missedTaken => exact framed rfl (execMissedTaken_only s) (by simp)
  | tOpenDue => exact framed rfl (execTOpenDue_only s) (by simp)

/-- Polarities and functions are the eight input bytes, so without a change of theirs no condition changes (R81, R171). -/
theorem Record.anyInput_of_inputs {old new : Record} (same : inputsChanged old new = false) (accepted : Byte)
    (f : InputFunction) (value : Bool) : new.anyInput accepted f value = old.anyInput accepted f value := by
  have bytes : ∀ i < 8, new.byteAt (91 + i) = old.byteAt (91 + i) := fun i inside => by
    have unchanged := List.any_eq_false.mp same i (List.mem_range.mpr inside)
    exact congrArg BitVec.toNat (show old.byte (91 + i) = new.byte (91 + i) by simpa using unchanged).symm
  unfold Record.anyInput
  refine Bool.eq_iff_iff.mpr ?_
  simp only [List.any_eq_true, List.mem_range]
  refine exists_congr fun i => and_congr_right fun inside => ?_
  have function : new.inputFunction i = old.inputFunction i := by unfold Record.inputFunction; rw [bytes i inside]
  have truth : new.inputTrue accepted i = old.inputTrue accepted i := by
    unfold Record.inputTrue Record.activeLow
    rw [bytes i inside]
  rw [function, truth]

theorem State.writeRecord_conditionsSound {s : State} (offset : Nat) (data : List Byte) (sound : s.conditionsSound) :
    (s.writeRecord offset data).conditionsSound := by
  unfold State.writeRecord
  dsimp only
  split
  · exact State.evaluateConditions_conditionsSound _
  next same =>
    have inputs := Record.anyInput_of_inputs (by simpa using same) s.monitor.accepted
    obtain ⟨air, door, chute, stop⟩ := sound
    exact ⟨air.trans (inputs _ _).symm, door.trans (inputs _ _).symm, chute.trans (inputs _ _).symm,
      stop.trans (inputs _ _).symm⟩

theorem State.warmRestart_conditionsSound {s : State} (sound : s.conditionsSound) : s.warmRestart.conditionsSound := by
  have monitor : s.warmRestart.monitor = { s.monitor with watch := .waiting } := by simp [State.warmRestart]
  unfold State.conditionsSound at sound ⊢
  rw [s.warmRestart_record, monitor]
  exact sound

theorem State.cold_conditionsSound (straps : BitVec 5) (n : Nat) (queue : List Instr) (held : Bool) :
    State.conditionsSound { State.cold straps n queue with inReset := held } := by
  have none : Record.cold.anyInput 0 .airOk false = false ∧ Record.cold.anyInput 0 .doorClosed false = false
      ∧ Record.cold.anyInput 0 .chuteReady false = false ∧ Record.cold.anyInput 0 .stopRequest true = false := by decide
  obtain ⟨air, door, chute, stop⟩ := none
  exact ⟨air.symm, door.symm, chute.symm, stop.symm⟩

theorem exec_conditionsSound {c : Instr} {s t : State} (next : exec c s = .next t) (sound : s.conditionsSound) :
    t.conditionsSound := by
  cases c with
  | encoderEdge r f b =>
    exact execEncoderEdge_keeps next sound id (State.conditionsSound_of_same s.reverseEdge_only (by simp))
      (fun x held => State.conditionsSound_of_same (x.advance_only _) (by simp) held) State.meet_conditionsSound
  | monitorSample => exact execMonitorSample_conditionsSound next sound
  | start => exact execStart_conditionsSound next sound
  | writeConfig offset count data =>
    have answered (z : State) (status : PortStatus) (rest : List Byte) (held : z.conditionsSound) :
        (z.answer status rest).conditionsSound := State.conditionsSound_of_same (z.answer_only _ _) (by simp) held
    change execWriteConfig offset count data s = _ at next
    obtain ⟨-, rfl⟩ | ⟨-, rfl⟩ := s.act_next t _ next
    · exact sound
    · split
      · exact State.conditionsSound_of_same s.dropResponse_only (by simp) sound
      · split
        · exact answered _ _ _ sound
        · exact answered _ _ _ (State.writeRecord_conditionsSound _ _ sound)
  | restart =>
    change execRestart s = _ at next
    obtain ⟨-, rfl⟩ | ⟨-, rfl⟩ := s.act_next t _ next
    · exact sound
    · refine State.conditionsSound_of_same (State.answer_only _ _ _) (by simp) ?_
      split
      · exact State.warmRestart_conditionsSound sound
      · exact sound
  | resetAssert => cases next; exact State.cold_conditionsSound _ _ _ true
  | coldStart straps => cases next; exact State.cold_conditionsSound _ _ _ false
  | _ => exact State.conditionsSound_of_same (exec_only next rfl) (by simp [commandParts]) sound

/-- Settles O11: an evaluation sets all four conditions, and a write that leaves the input bytes leaves what the levels give. -/
theorem stepKeepsConditions : Obligations.StepKeepsConditions := by
  intro s t sound next
  match queue : s.pending with
  | [] =>
    rw [step_idle s queue] at next
    cases next
    obtain tick | only := s.idle_effect
    · rw [tick]
      exact sound
    · exact State.conditionsSound_of_same only (by simp) sound
  | c :: rest =>
    rw [step_front s c rest queue] at next
    exact exec_conditionsSound next sound

end Sys2Proof.Machine

/-! PROOF. The step itself (logs 1 and 3), the due times and their commands (R9), and the invariants after a cold start (R175). -/

namespace Sys2Proof.Machine

/-- Settles O1: a step takes the command at the front off the queue. -/
theorem stepRunsFrontCommand : Obligations.StepRunsFrontCommand := fun c rest s queue => step_front s c rest queue

/-! ## The step on an empty queue -/

theorem State.valueFallen_iff (s : State) :
    s.valueFallen = true ↔ ∃ o, s.outgoing = some o ∧ atOrBefore o.due s.belt.timebase := by
  unfold State.valueFallen
  cases s.outgoing <;> simp

/-- What a turn does when something is due at this microsecond: a free order of the commands fallen due, else a local sighting. -/
theorem State.turn_due (s : State) (due : s.dueCommands ≠ []) :
    s.turn.pending.Perm s.dueCommands ∧ s.changesOnly s.turn [.pending, .freeCount] := by
  unfold State.turn
  rw [if_pos due]
  refine ⟨arrange_perm _ _ _ (Nat.le_refl _), fun p hp => ?_⟩
  cases p <;> first | rfl | simp at hp

theorem State.turn_sighting (s : State) (none : s.dueCommands = []) (waits : s.localSightings ≠ []) :
    s.turn = { s with pending := [.localSightingTaken] } := by
  unfold State.turn
  rw [if_neg (not_not.mpr none), if_pos waits]

theorem State.turn_quiet (s : State) (none : s.dueCommands = []) (taken : s.localSightings = []) :
    s.turn = if s.awaitsOutside then s else s.tick := by
  unfold State.turn
  rw [if_neg (not_not.mpr none), if_neg (not_not.mpr taken)]

theorem State.idle_of_reset (s : State) (reset : s.inReset = true) : s.idle = s := if_pos reset

theorem State.idle_of_unfallen (s : State) (out : s.inReset = false) (none : s.valueFallen = false) : s.idle = s.turn := by
  simp [State.idle, out, none]

/-- The free counter enters no value of a response. -/
theorem State.formNow_freeCount (s : State) (n : Nat) (values : List PortValue) :
    ∀ waits : List Nat, State.formNow { s with freeCount := n } values waits = s.formNow values waits := by
  have bytes (v : PortValue) : State.valueBytes { s with freeCount := n } v = s.valueBytes v := by cases v <;> rfl
  induction values with
  | nil => exact fun _ => rfl
  | cons v rest ih =>
    intro waits
    match waits with
    | [] => simp only [State.formNow, bytes, ih]
    | 0 :: waits => simp only [State.formNow, bytes, ih]
    | (w + 1) :: waits => rfl

theorem State.formValue_of_none {s : State} (none : s.outgoing = none) : s.formValue = s := by simp [State.formValue, none]

theorem State.formValue_of_some {s : State} {o : Outgoing} (some : s.outgoing = some o) :
    s.formValue = if atOrBefore o.due s.belt.timebase then s.goOn o.values (0 :: o.waits) else s := by
  simp [State.formValue, some]

theorem State.formValue_freeCount (s : State) (n : Nat) :
    State.formValue { s with freeCount := n } = { s.formValue with freeCount := n } := by
  obtain outgoing | ⟨o, outgoing⟩ : s.outgoing = none ∨ ∃ o, s.outgoing = some o := by cases s.outgoing <;> simp
  · rw [State.formValue_of_none outgoing, State.formValue_of_none (s := { s with freeCount := n }) outgoing]
  · rw [State.formValue_of_some outgoing, State.formValue_of_some (s := { s with freeCount := n }) outgoing]
    dsimp only
    split
    · simp only [State.goOn, s.formNow_freeCount n]
    · rfl

/-- A value whose moment has come, with something else due at this microsecond: either is first. -/
theorem State.idle_of_fallen (s : State) (out : s.inReset = false) (fallen : s.valueFallen = true)
    (due : ¬ (s.dueCommands = [] ∧ s.localSightings = [])) :
    s.idle = { s.formValue with freeCount := s.freeCount + 1 }
      ∨ s.idle = { State.turn { s with freeCount := s.freeCount + 1 } with
                   pending := (State.turn { s with freeCount := s.freeCount + 1 }).pending.take 1 } := by
  unfold State.idle
  rw [if_neg (by simp [out]), if_pos fallen, if_neg due]
  dsimp only
  split
  · exact .inl (s.formValue_freeCount _)
  · exact .inr rfl

/-- The one command that enters the queue in place of a value. -/
theorem State.turn_take_one (s : State) (due : s.dueCommands ≠ [] ∨ s.localSightings ≠ []) :
    ∃ c, s.turn.pending.take 1 = [c] ∧ (c ∈ s.dueCommands ∨ (s.dueCommands = [] ∧ c = .localSightingTaken)) := by
  by_cases none : s.dueCommands = []
  · rw [s.turn_sighting none (due.resolve_left (not_not.mpr none))]
    exact ⟨_, rfl, .inr ⟨none, rfl⟩⟩
  · obtain ⟨perm, -⟩ := s.turn_due none
    obtain ⟨c, rest, queue⟩ := List.exists_cons_of_ne_nil (mt (fun empty : s.turn.pending = [] => (empty ▸ perm).nil_eq.symm) none)
    refine ⟨c, by rw [queue]; rfl, .inl ?_⟩
    rw [← perm.mem_iff, queue]
    exact List.mem_cons_self

theorem State.turn_only (s : State) (due : s.dueCommands ≠ [] ∨ s.localSightings ≠ []) :
    s.changesOnly s.turn [.pending, .freeCount] := by
  by_cases none : s.dueCommands = []
  · rw [s.turn_sighting none (due.resolve_left (not_not.mpr none))]
    intro p hp
    cases p <;> first | rfl | simp at hp
  · exact (s.turn_due none).2

theorem State.setPending_only (s : State) (queue : List Instr) : s.changesOnly { s with pending := queue } [.pending] := by
  intro p hp
  cases p <;> first | rfl | simp at hp

theorem State.setFreeCount_only (s : State) (n : Nat) : s.changesOnly { s with freeCount := n } [.freeCount] := by
  intro p hp
  cases p <;> first | rfl | simp at hp

/-- Settles O2: the cases of a step without a command, each by the branch of the turn that it is. -/
theorem idleStepFollowsTheClock : Obligations.IdleStepFollowsTheClock := by
  intro s empty
  rw [step_idle s empty]
  refine ⟨fun reset => by rw [s.idle_of_reset reset], fun out unfallen => ?unfallen, fun out fallen => ?fallen⟩
  case unfallen =>
    rw [s.idle_of_unfallen out (by simpa using mt s.valueFallen_iff.mp unfallen)]
    refine ⟨fun due => ⟨_, rfl, s.turn_due due⟩, fun none waits => by rw [s.turn_sighting none waits],
      fun none taken waits => ?_, fun none taken passes => ?_⟩
    · rw [s.turn_quiet none taken, if_pos waits]
    · rw [s.turn_quiet none taken, if_neg (by simp [passes]), State.tick]
  case fallen =>
    have formed := s.valueFallen_iff.mpr fallen
    refine ⟨fun none taken => ?_, fun due => ⟨_, rfl, ?_⟩⟩
    · simp [State.idle, out, formed, none, taken]
    · obtain value | turned := s.idle_of_fallen out formed (by tauto)
      · rw [value]
        refine .inl ⟨rfl, rfl, ?_⟩
        exact s.formValue_only.then (State.setFreeCount_only _ _) (by simp) (by simp)
      · rw [turned]
        obtain ⟨c, one, which⟩ := State.turn_take_one { s with freeCount := s.freeCount + 1 } due
        refine .inr ⟨c, one, which, ?_⟩
        refine State.changesOnly.trans ?_ ((State.setPending_only _ _).mono (by simp))
        exact (s.setFreeCount_only _).then (State.turn_only _ due) (by simp) (fun _ h => h)

/-! ## The commands of fallen due times -/

theorem State.mem_dueCommands (s : State) (c : Instr) :
    c ∈ s.dueCommands ↔ c ∈ s.dueCounters ∨ c ∈ s.duePeers ∨ c ∈ s.dueOpening ∨ c ∈ s.dueTracks ∨ c ∈ s.dueValves := by
  simp [State.dueCommands]

theorem State.mem_dueCounters (s : State) (c : Instr) :
    c ∈ s.dueCounters ↔ (c = .stall ∧ ∃ due, s.belt.motion = .moving due ∧ atOrBefore due s.belt.timebase)
      ∨ (c = .beaconDue ∧ ∃ due, s.tx.beaconDue = some due ∧ atOrBefore due s.belt.timebase) := by
  unfold State.dueCounters State.fallen
  cases s.belt.motion <;> cases s.tx.beaconDue <;> simp [and_comm]

theorem State.mem_duePeers (s : State) (c : Instr) :
    c ∈ s.duePeers ↔ ∃ i : Fin 24, c = .peerLossDue i ∧ ∃ due, (s.peers[i]).lossDue = some due ∧ atOrBefore due s.belt.timebase := by
  unfold State.duePeers State.fallen
  simp only [List.mem_filterMap, List.mem_finRange, true_and]
  refine exists_congr fun i => ?_
  cases (s.peers[i]).lossDue with
  | none => simp
  | some due =>
    by_cases fallen : atOrBefore due s.belt.timebase
    · simpa [fallen] using eq_comm
    · simp [fallen]

theorem State.mem_dueOpening (s : State) (c : Instr) :
    c ∈ s.dueOpening ↔ c = .tOpenDue
      ∧ ∃ t ∈ s.tracks, ∃ f, t.state = .launched ∧ t.flight = some f ∧ atOrBefore f.tOpen s.belt.timebase := by
  have opening (t : Track) : (t.state = .launched && (t.nextDue.map s.fallen).getD false) = true
      ↔ ∃ f, t.state = .launched ∧ t.flight = some f ∧ atOrBefore f.tOpen s.belt.timebase := by
    by_cases launched : t.state = .launched
    · cases flight : t.flight <;> simp [launched, flight, Track.nextDue, State.fallen]
    · simp [launched]
  unfold State.dueOpening
  split
  next any =>
    obtain ⟨t, listed, due⟩ := List.any_eq_true.mp any
    rw [List.mem_singleton]
    exact ⟨fun is => ⟨is, t, listed, (opening t).mp due⟩, And.left⟩
  next none =>
    refine iff_of_false List.not_mem_nil ?_
    rintro ⟨-, t, listed, due⟩
    exact none (List.any_eq_true.mpr ⟨t, listed, (opening t).mpr due⟩)

theorem State.mem_dueTracks (s : State) (c : Instr) :
    c ∈ s.dueTracks ↔ ∃ t ∈ s.tracks, ∃ f, t.flight = some f
      ∧ ((t.state = .coasting ∧ atOrBefore f.tOpen s.belt.timebase ∧ .coastingTOpen t.made = c)
        ∨ (t.state = .firing ∧ atOrBefore f.tClose s.belt.timebase ∧ .tCloseDue t.made = c)) := by
  unfold State.dueTracks State.fallen
  simp only [List.mem_filterMap]
  refine exists_congr fun t => and_congr_right fun _ => ?_
  unfold Track.nextDue
  cases state : t.state <;> cases flight : t.flight <;> simp

theorem State.mem_dueValves (s : State) (c : Instr) :
    c ∈ s.dueValves ↔ ∃ i : Fin 32,
      (.closeAtDue i = c ∧ ∃ o d, s.valves[i] = .opened o d ∧ atOrBefore d s.belt.timebase)
        ∨ (.recoverUntilDue i = c ∧ ∃ d, s.valves[i] = .resting d ∧ atOrBefore d s.belt.timebase) := by
  unfold State.dueValves State.fallen
  simp only [List.mem_filterMap, List.mem_finRange, true_and]
  refine exists_congr fun i => ?_
  cases s.valves[i] with
  | closed => simp
  | opened o d => by_cases fallen : atOrBefore d s.belt.timebase <;> simp [fallen]
  | resting d => by_cases fallen : atOrBefore d s.belt.timebase <;> simp [fallen]

/-- Settles O3: each of the five lists holds the commands of its due times. -/
theorem everyFallenDueTimeHasItsCommand : Obligations.EveryFallenDueTimeHasItsCommand := by
  intro s
  simp only [s.mem_dueCommands, s.mem_dueCounters, s.mem_duePeers, s.mem_dueOpening, s.mem_dueTracks, s.mem_dueValves,
    reduceCtorEq, false_and, and_false, exists_false, or_false, false_or, true_and, or_self, Instr.peerLossDue.injEq,
    Instr.coastingTOpen.injEq, Instr.tCloseDue.injEq, Instr.closeAtDue.injEq, Instr.recoverUntilDue.injEq, exists_eq_left,
    exists_eq_left']
  refine ⟨fun _ => trivial, fun id => ?_, fun id => ?_, fun _ => trivial, fun _ => trivial⟩
  all_goals
    refine exists_congr fun t => and_congr_right fun _ => exists_congr fun f => ?_
    tauto

/-! ## After a cold start -/

/-- Settles O15: every list is empty, every valve closed, the record the cold one, whatever the straps. -/
theorem coldStartMeetsEveryInvariant : Obligations.ColdStartMeetsEveryInvariant := by
  intro straps s
  have capacity : s.withinCapacity := by
    rw [State.withinCapacity_iff]
    simp [s, State.cold, Belt.cold, ScanUnit.cold, Transmitter.cold, ScanUnit.fits, Transmitter.fits]
  have bank : s.bankSound := by
    refine State.bankSound_of_rest (fun i => ?_) nofun (fun _ => rfl) (by decide : Record.cold.budgetLow ≤ Record.cold.budget)
    simp [s, State.cold, Valve.isOpen]
  have hold : s.holdSound := by
    refine ⟨⟨nofun, nofun⟩, fun _ => ?_, nofun, fun i _ => ?_⟩
    · simp [s, State.inHaltSet, State.cold, State.ownHalt, Monitor.cold]
    · simp [s, State.cold, State.operating]
  obtain ⟨held, valves⟩ := s.bankSound_iff.mp bank
  obtain ⟨halts, entry⟩ := s.holdSound_iff.mp hold
  have table : s.tableSound := ⟨List.nodup_nil, fun u none => absurd none List.not_mem_nil, Nat.zero_le _⟩
  have rests : s.setupAtRest := s.setupAtRest_iff.mpr
    ⟨fun _ => ⟨rfl, rfl, rfl, rfl, rfl, rfl⟩, State.cold_scanRests straps 0 [] false⟩
  have belt : s.beltSound := ⟨Record.pitch_pos Record.cold_inRange, nofun, rfl⟩
  have transmitter : s.transmitterSound := by simp [s, State.cold, Transmitter.cold, State.transmitterSound]
  exact ⟨capacity, table, .nil, held, rests, halts, entry, State.cold_conditionsSound straps 0 [] false, Record.cold_inRange,
    belt, valves, transmitter⟩

end Sys2Proof.Machine

/-! PROOF. The belt counter's events: edges, advances, speed measure, scan phase, stall and the loss of a peer (R1 to R4, R11, R13 to
R16, R21, R23, R70). -/

namespace Sys2Proof.Machine

/-! ## A tally counted with its flag -/

theorem State.bump_counts (s : State) (x : Tally) : s.counts (s.bump x) x 1 := s.bumpBy_counts x 1

theorem State.bump_talliesOnly (s : State) (x : Tally) : s.talliesOnly (s.bump x) [x] := fun y other =>
  s.bumpBy_counts_other x y 1 (by simpa using other)

theorem State.raise_flagsOnly (s : State) (f : Flag) : s.flagsOnly (s.raise f) [f] := fun g other => by
  have apart : g ≠ f := by simpa using other
  simp [s.raise_sets f g, apart]

theorem State.bump_raise_counts (s : State) (x : Tally) (f : Flag) : s.counts ((s.bump x).raise f) x 1 := s.bump_counts x

theorem State.bump_raise_talliesOnly (s : State) (x : Tally) (f : Flag) : s.talliesOnly ((s.bump x).raise f) [x] :=
  s.bump_talliesOnly x

theorem State.bump_raise_flagsOnly (s : State) (x : Tally) (f : Flag) : s.flagsOnly ((s.bump x).raise f) [f] :=
  (s.bump x).raise_flagsOnly f

theorem State.bump_raise_only (s : State) (x : Tally) (f : Flag) : s.changesOnly ((s.bump x).raise f) [.tallies, .flags] :=
  (s.bump_only x).then (State.raise_only _ f) (by simp) (by simp)

/-! ## Edges -/

theorem CountedEdge.counts_iff (e : CountedEdge) (rising : Bool) :
    e.counts rising = true ↔ e = .both ∨ (e = .rising ∧ rising = true) ∨ (e = .falling ∧ rising = false) := by
  cases e <;> simp [CountedEdge.counts]

/-- Settles O18: a counted reverse edge counts alone, and another edge is not looked at. -/
theorem reverseEdgeOnlyCounts : Obligations.ReverseEdgeOnlyCounts := by
  intro rising s between out
  refine ⟨fun counted => ?_, fun forward uncounted => ?_⟩
  · have matches_ := (CountedEdge.counts_iff _ _).mpr counted
    refine ⟨s.reverseEdge, ?_, s.bump_raise_counts _ _, State.raise_flagSet _ _, fun x other => ?_, fun f other => ?_,
      s.reverseEdge_only⟩
    · change execEncoderEdge rising false s between = _
      simp [execEncoderEdge, State.act, out, matches_]
    · exact s.bump_raise_talliesOnly _ .reverse x (by simpa using other)
    · exact s.bump_raise_flagsOnly .reverse _ f (by simpa using other)
  · have ignored : s.record.countedEdge.counts rising = false := by
      rcases uncounted with ⟨edge, level⟩ | ⟨edge, level⟩ <;> simp [edge, level, CountedEdge.counts]
    change execEncoderEdge rising forward s between = _
    simp [execEncoderEdge, State.act, out, ignored]

/-! ## The speed measure -/

theorem Belt.foldl_advance (b : Belt) (stamps : List Time) (empty : b.ring = []) :
    (stamps.foldl Belt.advance b).ring = stamps.drop (stamps.length - 16)
      ∧ (stamps.foldl Belt.advance b).count = b.count + BitVec.ofNat 24 stamps.length := by
  induction stamps using List.reverseRecOn with
  | nil => simp [empty]
  | append_singleton stamps last ih =>
    obtain ⟨ring, count⟩ := ih
    rw [List.foldl_append, List.foldl_cons, List.foldl_nil]
    refine ⟨?_, ?_⟩
    · simp only [Belt.advance, pushStamp, ring, Config.ringSize, List.length_append, List.length_singleton, List.length_drop]
      by_cases few : stamps.length ≤ 16
      · rw [show stamps.length - 16 = 0 by omega, List.drop_zero]
        congr 1
      · rw [← List.drop_append_of_le_length (by omega), List.drop_drop]
        congr 1
        omega
    · simp only [Belt.advance, count, List.length_append, List.length_singleton]
      bv_omega

/-- Settles O19: the ring holds the last sixteen stamps, and the measure formed at an advance is taken before its own stamp joins. -/
theorem speedMeasureSpansSixteenAdvances : Obligations.SpeedMeasureSpansSixteenAdvances := by
  intro b stamps stamp empty c
  obtain ⟨ring, count⟩ := b.foldl_advance stamps empty
  have measure : (c.advance stamp).measure = measureAt (stamps.drop (stamps.length - 16)) stamp :=
    congrArg (fun r => measureAt r stamp) ring
  refine ⟨fun few => ?_, fun many first oldest => ?_, ring, ?_, rfl⟩
  · rw [measure, show stamps.length - 16 = 0 by omega, List.drop_zero]
    unfold measureAt
    split
    · rfl
    · simp only [Config.ringSize]
      exact if_neg (by omega)
  · obtain ⟨inside, is⟩ := List.getElem?_eq_some_iff.mp oldest
    rw [measure, List.drop_eq_getElem_cons inside, is]
    simp only [measureAt, Config.ringSize, List.length_cons, List.length_drop]
    exact if_pos (by omega)
  · have := (c.advance stamp).count
    change c.count + 1 = _
    rw [show c.count = _ from count]
    bv_omega

/-! ## The scan phase -/

theorem State.scans_iff (s : State) : s.scans = true ↔ s.mode ≠ .setup ∧ s.record.role ≠ .eject := by
  unfold State.scans State.operating
  cases s.mode <;> cases s.record.role <;> simp [Role.senses]

/-- With an exchange on the wire a scan event waits, up to 255 of them, and counts a skipped scan (R23). -/
theorem State.scanEvent_of_exchange {s : State} {stamp : Count} {ends : Time} {void : Bool}
    (onWire : s.scan.link = .exchange stamp ends void) :
    s.scanEvent = State.skipScan { s with
      scan := { s.scan with waiting := if s.scan.waiting < 255 then s.scan.waiting + 1 else s.scan.waiting } } := by
  unfold State.scanEvent
  split
  next idle => simp [onWire] at idle
  · rw [Config.maxWaiting]
    by_cases room : s.scan.waiting < 255
    · rw [if_neg (Nat.not_le.mpr room), if_pos room]
    · rw [if_pos (Nat.le_of_not_lt room), if_neg room]

/-- Settles O20: the phase counts on a scanning station alone, and at S the scan event is worked. -/
theorem scanPhaseRaisesScanEvents : Obligations.ScanPhaseRaisesScanEvents := by
  intro s
  refine ⟨fun rests => ?_, fun operating senses below => ?_, fun operating senses reached => ⟨fun idle => ?_, fun stamp ends void onWire => ?_⟩⟩
  · unfold State.countPhase
    rw [if_neg (by rw [s.scans_iff]; tauto)]
  · unfold State.countPhase
    rw [if_pos (s.scans_iff.mpr ⟨operating, senses⟩), if_neg (Nat.not_le.mpr below)]
  · unfold State.countPhase
    rw [if_pos (s.scans_iff.mpr ⟨operating, senses⟩), if_pos reached]
    simp [State.scanEvent, idle]
  · have event : s.countPhase = (({ s with
        belt := { s.belt with scanPhase := 0 }
        scan := { s.scan with waiting := if s.scan.waiting < 255 then s.scan.waiting + 1 else s.scan.waiting } } : State).skipScan) := by
      unfold State.countPhase
      rw [if_pos (s.scans_iff.mpr ⟨operating, senses⟩), if_pos reached]
      exact State.scanEvent_of_exchange (s := { s with belt := { s.belt with scanPhase := 0 } }) onWire
    rw [event]
    refine ⟨rfl, rfl, State.bump_raise_counts _ _ _, State.raise_flagSet _ _, State.bump_raise_talliesOnly _ _ _,
      State.bump_raise_flagsOnly _ _ _, fun p hp => ?_⟩
    cases p <;> first | rfl | simp at hp

/-! ## Stall and peer loss -/

/-- Settles O21: each at its due time changes its own part, and counts and flags once. -/
theorem stallAndPeerLossFallDue : Obligations.StallAndPeerLossFallDue := by
  intro s out
  refine ⟨fun due moving fallen => ?_, fun id due lossDue fallen => ?_⟩
  · refine ⟨s.enterStall, ?_, rfl, State.bump_raise_counts _ _ _, State.raise_flagSet _ _, State.bump_raise_talliesOnly _ _ _,
      State.bump_raise_flagsOnly _ _ _, s.enterStall_only⟩
    change execStall s = _
    simp [execStall, State.act, out, moving, fallen]
  · refine ⟨s.losePeer id, ?_, ?_, fun i other => ?_, State.bump_raise_counts _ _ _, State.raise_flagSet _ _,
      State.bump_raise_talliesOnly _ _ _, State.bump_raise_flagsOnly _ _ _, s.losePeer_only id⟩
    · change execPeerLossDue id s = _
      refine (s.act_out _ out).trans (congrArg Host.Outcome.next ?_)
      rw [lossDue]
      exact if_pos fallen
    · simp [State.losePeer, State.updatePeer]
    · have apart : id.val ≠ i.val := fun same => other (Fin.ext same.symm)
      simp [State.losePeer, State.updatePeer, apart]

/-! ## Several advances -/

/-- The advances one after another, nothing between them. -/
def State.repeated (s : State) (stamp : Time) : Nat → State
  | 0 => s
  | n + 1 => (s.repeated stamp n).advance stamp

theorem State.repeated_succ (s : State) (stamp : Time) (n : Nat) :
    s.repeated stamp (n + 1) = (s.advance stamp).repeated stamp n := by
  induction n with
  | zero => rfl
  | succ n ih => exact congrArg (State.advance · stamp) ih

theorem State.repeated_eq (stamp : Time) (n : Nat) (s : State) :
    Nat.repeat (fun x : State => ({ x with belt := x.belt.advance stamp }.countPhase).beltEvents stamp) n s = s.repeated stamp n := by
  induction n with
  | zero => rfl
  | succ n ih => exact congrArg (State.advance · stamp) ih

theorem State.advances_nil (stamp : Time) (n : Nat) : ∀ s : State, s.advances stamp n [] = s.repeated stamp n := by
  induction n with
  | zero => exact fun s => rfl
  | succ n ih =>
    intro s
    rw [s.repeated_succ]
    exact ih (s.advance stamp)

/-- What falls in the gap after advance `k + 1` comes after that many advances and before the others. -/
theorem State.advances_gap (stamp : Time) (gap : List Between) (k : Nat) : ∀ (n : Nat) (s : State), k + 1 < n →
    s.advances stamp n (List.replicate k [] ++ [gap])
      = (gap.foldl State.meet (s.repeated stamp (k + 1))).repeated stamp (n - (k + 1)) := by
  induction k with
  | zero =>
    intro n s inside
    obtain ⟨m, rfl⟩ := Nat.exists_eq_add_of_lt inside
    rw [show 0 + 1 + m + 1 = (m + 1) + 1 by omega]
    simp only [List.replicate_zero, List.nil_append, State.advances, Nat.add_eq_zero_iff, Nat.one_ne_zero, and_false, if_false]
    exact State.advances_nil stamp (m + 1) _
  | succ k ih =>
    intro n s inside
    obtain ⟨m, rfl⟩ := Nat.exists_eq_add_of_lt inside
    rw [show k + 1 + 1 + m + 1 = (k + 1 + m + 1) + 1 by omega]
    have skipped : s.advances stamp (k + 1 + m + 1 + 1) (List.replicate (k + 1) [] ++ [gap])
        = (s.advance stamp).advances stamp (k + 1 + m + 1) (List.replicate k [] ++ [gap]) := by
      simp [List.replicate_succ, State.advances]
    rw [skipped, ih _ _ (by omega), s.repeated_succ stamp (k + 1),
      show k + 1 + m + 1 + 1 - (k + 1 + 1) = k + 1 + m + 1 - (k + 1) by omega]

theorem State.advance_clock (s : State) (stamp : Time) :
    (s.advance stamp).belt.clock = (s.belt.timebase, s.belt.count + 1, s.belt.accumulator) :=
  (s.advance_works (sights := False) stamp).keeps_clock

theorem clock_succ (c : Count) (n : Nat) : c + 1 + BitVec.ofNat 24 n = c + BitVec.ofNat 24 (n + 1) := by bv_omega

/-- Whatever falls between them, the advances move the count alone of timebase, count and accumulator. -/
theorem State.advances_clock (stamp : Time) (n : Nat) : ∀ (s : State) (between : List (List Between)),
    (s.advances stamp n between).belt.clock = (s.belt.timebase, s.belt.count + BitVec.ofNat 24 n, s.belt.accumulator) := by
  induction n with
  | zero => exact fun s _ => by simp [State.advances, Belt.clock]
  | succ n ih =>
    intro s between
    have advanced (x : State) (same : x.belt.clock = (s.advance stamp).belt.clock) (rest : List (List Between)) :
        (x.advances stamp n rest).belt.clock = (s.belt.timebase, s.belt.count + BitVec.ofNat 24 (n + 1), s.belt.accumulator) := by
      have clock := same.trans (s.advance_clock stamp)
      simp only [Belt.clock, Prod.mk.injEq] at clock
      obtain ⟨timebase, count, accumulator⟩ := clock
      rw [ih x rest, timebase, count, accumulator, clock_succ]
    match between with
    | [] => exact advanced _ rfl []
    | gap :: rest =>
      refine advanced _ ?_ rest
      split
      · rfl
      · exact (State.meets_works gap _).keeps_clock

theorem State.repeated_clock (s : State) (stamp : Time) (n : Nat) :
    (s.repeated stamp n).belt.clock = (s.belt.timebase, s.belt.count + BitVec.ofNat 24 n, s.belt.accumulator) := by
  rw [← State.advances_nil]
  exact State.advances_clock stamp n s []

theorem State.repeated_only (s : State) (stamp : Time) (n : Nat) : s.changesOnly (s.repeated stamp n) beltParts := by
  rw [← State.advances_nil]
  exact State.advances_only stamp n s

/-! ## Without a frame to begin -/

/-- No own attempt can begin: in SETUP nothing is offered, and in MUTE every offer is dropped. -/
def State.silent (s : State) : Prop := s.mode = .setup ∨ s.tx.mute = true

/-- The parts of launches and ends of tracks without their frames. -/
abbrev silentParts : List Part := [.tracks, .valves, .tallies, .trace, .latest]

theorem State.silent_of_only {s t : State} (only : s.changesOnly t silentParts) (silent : s.silent) : t.silent := by
  unfold State.silent
  rw [only .mode (by simp), only .tx (by simp)]
  exact silent

theorem State.begin_of_silent {s : State} (silent : s.silent) : s.begin = s := by
  have not : ¬ s.mayBegin := by
    rw [s.mayBegin_iff]
    rcases silent with setup | mute
    · simp [setup]
    · simp [mute]
  exact if_neg not

theorem State.offer_only_of_silent {s : State} (silent : s.silent) (u : Urgent) : s.changesOnly (s.offer u) silentParts := by
  have queued : s.changesOnly (s.enqueueUrgent u) silentParts := by
    rcases silent with setup | mute
    · rw [State.enqueueUrgent_of_setup setup]
      exact .refl _ _
    · unfold State.enqueueUrgent
      rw [mute]
      exact .ite _ (.refl _ _) ((s.bump_only _).mono (by simp))
  unfold State.offer
  rw [State.begin_of_silent (State.silent_of_only queued silent)]
  exact queued

theorem State.missTrack_only_of_silent {s : State} (silent : s.silent) (t : Track) (reason : MissReason) :
    s.changesOnly (s.missTrack t reason) silentParts := by
  have ended : s.changesOnly (s.endTrack t (.missed reason)) silentParts := (s.endTrack_only _ _).mono (by simp)
  exact ended.trans (State.offer_only_of_silent (State.silent_of_only ended silent) _)

theorem State.grant_only_of_silent {s : State} (silent : s.silent) (t : Track) (f : Flight) :
    s.changesOnly (s.grant t f) silentParts := by
  have served : s.changesOnly ((s.serveValves t f.tClose).updateTrack t.made fun u =>
      { u with state := .firing, valveSet := some (s.grantedSet t) }) silentParts := (s.granted_only _ _ _).mono (by simp)
  have offered := State.offer_only_of_silent (State.silent_of_only served silent) (.fired (s.report t))
  exact (served.trans offered).trans ((State.settleTrack_only _ _).mono (by simp))

theorem State.request_only_of_silent {s : State} (silent : s.silent) (id : Nat) : s.changesOnly (s.request id) silentParts := by
  unfold State.request
  split
  · exact .refl _ _
  · split
    · split
      · exact State.missTrack_only_of_silent silent _ _
      · exact State.grant_only_of_silent silent _ _
    · exact .refl _ _

theorem State.openIfDue_only_of_silent {s : State} (silent : s.silent) (id : Nat) :
    s.changesOnly (s.openIfDue id) silentParts := by
  unfold State.openIfDue
  split
  · exact .refl _ _
  · split
    · exact .refl _ _
    · refine .ite _ ?_ (.refl _ _)
      split
      · exact State.request_only_of_silent silent _
      · exact (s.endTrack_only _ _).mono (by simp)
      · exact .refl _ _

theorem State.fly_only_of_silent {s : State} (silent : s.silent) (t : Track) (launch : Time) (delta : Nat) (next : TrackState) :
    s.changesOnly (s.fly t launch delta next) silentParts := by
  have flown (f : Track → Track) : s.changesOnly (s.updateTrack t.made f) silentParts := (s.updateTrack_only _ _).mono (by simp)
  exact (flown _).trans (State.openIfDue_only_of_silent (State.silent_of_only (flown _) silent) _)

theorem State.beltEvent_only_of_silent (stamp : Time) {s : State} (silent : s.silent) (id : Nat) :
    s.changesOnly (State.beltEvent stamp s id) silentParts := by
  unfold State.beltEvent
  split
  · exact .refl _ _
  · refine .ite _ ?_ (.refl _ _)
    split
    · have judged (f : Track → Track) (id : Nat) : s.changesOnly (s.updateTrack id f) silentParts :=
        (s.updateTrack_only _ _).mono (by simp)
      unfold State.judge
      exact .ite _ ((judged _ _).trans (State.offer_only_of_silent (State.silent_of_only (judged _ _) silent) _)) (judged _ _)
    · unfold State.launchArmed
      split
      · exact State.missTrack_only_of_silent silent _ _
      · exact .ite _ (State.missTrack_only_of_silent silent _ _) (State.fly_only_of_silent silent _ _ _ _)
    · unfold State.launchWatching
      split
      · exact (s.endTrack_only _ _).mono (by simp)
      · exact .ite _ ((s.endTrack_only _ _).mono (by simp)) (State.fly_only_of_silent silent _ _ _ _)
    all_goals exact .refl _ _

theorem State.beltEvents_only_of_silent {s : State} (silent : s.silent) (stamp : Time) :
    s.changesOnly (s.beltEvents stamp) silentParts := by
  unfold State.beltEvents
  generalize (s.tracks.filter s.beltDue).map Track.made = ids
  induction ids generalizing s with
  | nil => exact .refl _ _
  | cons id rest ih =>
    have first := State.beltEvent_only_of_silent stamp silent id
    exact first.trans (ih (State.silent_of_only first silent))

/-- No own attempt begins at an advance: the transmitter is silent, or no track stands in the table. -/
def State.still (s : State) : Prop := s.mode = .setup ∨ s.tx.mute = true ∨ s.tracks = []

theorem State.advance_still {s : State} (still : s.still) (stamp : Time) :
    (s.advance stamp).still ∧ (s.advance stamp).line = s.line := by
  have phase : s.changesOnly ({ s with belt := s.belt.advance stamp }.countPhase) [.belt, .scan, .tallies, .flags] :=
    (s.setBelt_only _).then (State.countPhase_only _) (by simp) (by simp)
  unfold State.advance
  generalize { s with belt := s.belt.advance stamp }.countPhase = x at phase
  have line := phase .line (by simp)
  have kept : x.mode = s.mode ∧ x.tx = s.tx ∧ x.tracks = s.tracks :=
    ⟨phase .mode (by simp), phase .tx (by simp), phase .tracks (by simp)⟩
  by_cases silent : x.silent
  · have events := State.beltEvents_only_of_silent silent stamp
    refine ⟨?_, (events .line (by simp)).trans line⟩
    exact (State.silent_of_only events silent).imp_right .inl
  · have none : x.tracks = [] := by
      rcases still with setup | mute | none
      · exact absurd (.inl (kept.1.trans setup)) silent
      · exact absurd (.inr (kept.2.1 ▸ mute)) silent
      · exact kept.2.2.trans none
    have quiet : x.beltEvents stamp = x := by simp [State.beltEvents, none]
    rw [quiet]
    exact ⟨.inr (.inr none), line⟩

theorem State.repeated_still {s : State} (still : s.still) (stamp : Time) (n : Nat) :
    (s.repeated stamp n).still ∧ (s.repeated stamp n).line = s.line := by
  induction n with
  | zero => exact ⟨still, rfl⟩
  | succ n ih =>
    obtain ⟨before, line⟩ := ih
    obtain ⟨after, same⟩ := State.advance_still before stamp
    exact ⟨after, same.trans line⟩

/-! ## The forward edge -/

theorem execEncoderEdge_forward {rising : Bool} {s : State} (between : List (List Between)) (out : s.inReset = false)
    (counted : s.record.countedEdge.counts rising = true) :
    exec (.encoderEdge rising true between) s = .next (s.gained.advances s.belt.timebase s.edgeUnits between) := by
  change execEncoderEdge rising true s between = _
  simp only [execEncoderEdge, State.act, out, counted, Bool.false_eq_true, if_false, if_true]
  rfl

/-- A start edge met on an idle line is latched with the count as it stands. -/
theorem State.meet_startEdgeLatch {s : State} (out : s.inReset = false) (idle : s.line.status = .idle) :
    s.meet .startEdgeLatch = s.latch := by
  simp [State.meet, State.through, execStartEdgeLatch, State.act, out, idle]

/-- A belt count whose moment has come is formed from the count as it stands, high byte first. -/
theorem State.formValue_count {s : State} {o : Outgoing} (outgoing : s.outgoing = some o) (values : o.values = [.ofState 1])
    (fallen : atOrBefore o.due s.belt.timebase) :
    s.formValue.response = s.response ++ bigEndian 3 s.belt.count.toNat ∧ s.formValue.outgoing = none := by
  rw [State.formValue_of_some outgoing, if_pos fallen, values]
  cases o.waits with
  | nil => simp [State.goOn, State.formNow, State.valueBytes, State.stateReport, State.reportBelt, bigEndian, bytes3, bytes2, byteOf, List.range, List.range.loop]
  | cons => simp [State.goOn, State.formNow, State.valueBytes, State.stateReport, State.reportBelt, bigEndian, bytes3, bytes2, byteOf, List.range, List.range.loop]

/-- Settles O17: the advances in order, the count moved by each of them alone, and what falls after one worked on its state. -/
theorem forwardEdgeAdvancesTheBelt : Obligations.ForwardEdgeAdvancesTheBelt := by
  intro rising s between out edge units advances gained
  have counted := (CountedEdge.counts_iff _ _).mpr edge
  have repeated (n : Nat) (x : State) : advances n x = x.repeated s.belt.timebase n := State.repeated_eq _ n x
  have clock := State.advances_clock s.belt.timebase units s.gained between
  simp only [Belt.clock, Prod.mk.injEq] at clock
  obtain ⟨-, count, accumulator⟩ := clock
  have gap (k : Nat) (gap : List Between) (inside : k + 1 < units) (is : between = List.replicate k [] ++ [gap]) :
      s.gained.advances s.belt.timebase units between
        = (gap.foldl State.meet (s.gained.repeated s.belt.timebase (k + 1))).repeated s.belt.timebase (units - (k + 1)) := by
    rw [is]
    exact State.advances_gap _ gap k units s.gained inside
  have clockAt (k : Nat) := s.gained.repeated_clock s.belt.timebase k
  simp only [Belt.clock, Prod.mk.injEq] at clockAt
  refine ⟨_, execEncoderEdge_forward between out counted, count, accumulator, fun none => ⟨?_, ?_⟩, ?_, fun zero => ?_,
    fun k gap' inside is => ⟨?_, ?_⟩, fun k inside idle still is => ?_, fun k o inside outgoing values fallen is => ?_⟩
  · rw [repeated, none]
    exact State.advances_nil _ _ _
  · rw [none]
    exact (s.setBelt_only _).then (State.advances_only _ _ _) (by simp) (by simp)
  · exact (s.setBelt_only _).then (State.advances_between_only _ _ _ _) (by simp) (by simp)
  · exact congrArg (fun n => s.gained.advances s.belt.timebase n between) zero
  · rw [repeated, repeated]
    exact gap k gap' inside is
  · rw [repeated]
    exact (clockAt (k + 1)).2.1
  · obtain ⟨before, line⟩ := State.repeated_still (s := s.gained) still s.belt.timebase (k + 1)
    have only := s.gained.repeated_only s.belt.timebase (k + 1)
    have latched : (State.latch (s.gained.repeated s.belt.timebase (k + 1))).still := before
    have edge := gap k [.startEdgeLatch] inside is
    rw [List.foldl_cons, List.foldl_nil, State.meet_startEdgeLatch ((only .inReset (by simp)).trans out)
      ((congrArg LineLink.status line).trans idle)] at edge
    refine (congrArg State.line edge).trans ((State.repeated_still latched _ _).2.trans ?_)
    rw [State.latch_line, (clockAt (k + 1)).1, (clockAt (k + 1)).2.1]
    rfl
  · have only := s.gained.repeated_only s.belt.timebase (k + 1)
    have value := gap k [.portValue] inside is
    have standing : (s.gained.repeated s.belt.timebase (k + 1)).outgoing = some o := (only .outgoing (by simp)).trans outgoing
    obtain ⟨response, done⟩ := State.formValue_count standing values (by rw [(clockAt (k + 1)).1]; exact fallen)
    have after := (s.gained.repeated s.belt.timebase (k + 1)).formValue.repeated_only s.belt.timebase (units - (k + 1))
    refine ⟨(congrArg State.response value).trans ((after .response (by simp)).trans ?_),
      (congrArg State.outgoing value).trans ((after .outgoing (by simp)).trans done)⟩
    rw [response, (clockAt (k + 1)).2.1, only .response (by simp)]
    rfl

end Sys2Proof.Machine

/-! PROOF. Runs and objects (R28 to R31): the runs of a presence, and what a run does to the working list. -/

namespace Sys2Proof.Machine

/-! ## Runs (R28) -/


/-- The runs still to be found: exactly the lanes present, each run within its lanes, with a gap between each two. -/
structure FindsRuns (p : BitVec 32) (since : Nat) (runs : List Span) : Prop where
  covers : ∀ i, since ≤ i → i < 32 → (p.getLsbD i = true ↔ ∃ r ∈ runs, r.first ≤ i ∧ i ≤ r.last)
  within : ∀ r ∈ runs, since ≤ r.first ∧ r.first ≤ r.last ∧ r.last ≤ 31
  apart : runs.Pairwise fun a b => a.last + 1 < b.first

/-- A run that ends where a lane is absent, before the runs found from the lane after it. -/
theorem FindsRuns.cons {p : BitVec 32} {a k : Nat} {rest : List Span} (below : a < k) (lane : k < 32)
    (present : ∀ i, a ≤ i → i < k → p.getLsbD i = true) (absent : p.getLsbD k = false) (found : FindsRuns p (k + 1) rest) :
    FindsRuns p a (⟨a, k - 1⟩ :: rest) := by
  refine ⟨fun i since i32 => ?_, fun r hr => ?_, List.pairwise_cons.mpr ⟨fun r hr => ?_, found.apart⟩⟩
  · rcases Nat.lt_trichotomy i k with before | rfl | after
    · exact iff_of_true (present i since before) ⟨_, List.mem_cons_self, since, by simp only; omega⟩
    · refine iff_of_false (by simp [absent]) ?_
      rintro ⟨r, hr, low, high⟩
      rcases List.mem_cons.mp hr with rfl | hr
      · simp only at high
        omega
      · have := (found.within r hr).1
        omega
    · rw [found.covers i after i32]
      constructor
      · rintro ⟨r, hr, spans⟩
        exact ⟨r, List.mem_cons_of_mem _ hr, spans⟩
      · rintro ⟨r, hr, low, high⟩
        rcases List.mem_cons.mp hr with rfl | hr
        · simp only at high
          omega
        · exact ⟨r, hr, low, high⟩
  · rcases List.mem_cons.mp hr with rfl | hr
    · simp only
      omega
    · have := found.within r hr
      omega
  · have := (found.within r hr).1
    simp only
    omega

/-- Past an absent lane the runs are those found from the next one. -/
theorem FindsRuns.skip {p : BitVec 32} {k : Nat} {rest : List Span} (absent : p.getLsbD k = false) (found : FindsRuns p (k + 1) rest) :
    FindsRuns p k rest := by
  refine ⟨fun i since i32 => ?_, fun r hr => ?_, found.apart⟩
  · rcases Nat.eq_or_lt_of_le since with rfl | after
    · refine iff_of_false (by simp [absent]) ?_
      rintro ⟨r, hr, low, high⟩
      have := (found.within r hr).1
      omega
    · exact found.covers i after i32
  · have := found.within r hr
    omega

theorem runsFrom_finds (p : BitVec 32) (n : Nat) : ∀ (k : Nat) (start : Option Nat), k + n = 32 →
    (∀ a, start = some a → a < k ∧ ∀ i, a ≤ i → i < k → p.getLsbD i = true) →
      FindsRuns p (start.getD k) (runsFrom p start (List.range' k n)) := by
  induction n with
  | zero =>
    intro k start last running
    obtain rfl : k = 32 := by omega
    cases start with
    | none =>
      exact ⟨fun i since i32 => absurd since (by simp only [Option.getD_none]; omega), by simp [runsFrom], by simp [runsFrom]⟩
    | some a =>
      obtain ⟨below, present⟩ := running a rfl
      refine ⟨fun i since i32 => ?_, ?_, by simp [runsFrom]⟩
      · exact iff_of_true (present i since i32) ⟨⟨a, 31⟩, by simp [runsFrom], since, Nat.le_of_lt_succ i32⟩
      · simp only [List.range'_zero, runsFrom, List.mem_singleton, Option.getD_some, forall_eq]
        omega
  | succ n ih =>
    intro k start total running
    rw [List.range'_succ]
    unfold runsFrom
    by_cases lane : p.getLsbD k = true
    · rw [if_pos lane]
      refine ih (k + 1) (some (start.getD k)) (by omega) fun a isStart => ?_
      obtain rfl : start.getD k = a := Option.some.inj isStart
      cases start with
      | none =>
        refine ⟨by simp, fun i low high => ?_⟩
        simp only [Option.getD_none] at low
        obtain rfl : i = k := by omega
        exact lane
      | some a =>
        obtain ⟨below, present⟩ := running a rfl
        simp only [Option.getD_some]
        refine ⟨by omega, fun i low high => ?_⟩
        rcases Nat.lt_or_eq_of_le (Nat.le_of_lt_succ high) with before | rfl
        · exact present i low before
        · exact lane
    · have absent : p.getLsbD k = false := by simpa using lane
      have found := ih (k + 1) none (by omega) (by simp)
      rw [if_neg lane]
      cases start with
      | none => exact found.skip absent
      | some a =>
        obtain ⟨below, present⟩ := running a rfl
        exact found.cons below (by omega) present absent

/-- Runs with a gap between each two take at least two lanes each, but for the last. -/
theorem length_of_runs (runs : List Span) : ∀ since, since ≤ 33 → (∀ r ∈ runs, since ≤ r.first ∧ r.first ≤ r.last ∧ r.last ≤ 31) →
    runs.Pairwise (fun a b => a.last + 1 < b.first) → 2 * runs.length + since ≤ 33 := by
  induction runs with
  | nil => intro since bound _ _; simpa using bound
  | cons r rest ih =>
    intro since _ within apart
    obtain ⟨gaps, apart⟩ := List.pairwise_cons.mp apart
    obtain ⟨first, spans, last⟩ := within r List.mem_cons_self
    have others := ih (r.last + 2) (by omega)
      (fun x hx => ⟨gaps x hx, (within x (List.mem_cons_of_mem _ hx)).2⟩) apart
    rw [List.length_cons]
    omega

/-- Settles O24: the lanes are gone through in order, a run being closed by the first absent lane after it. -/
theorem runsAreMaximalAndAscending : Obligations.RunsAreMaximalAndAscending := by
  intro p
  have found : FindsRuns p 0 (runsOf p) := by
    rw [runsOf, List.range_eq_range']
    exact runsFrom_finds p 32 0 none rfl (by simp)
  refine ⟨fun i => found.covers i (Nat.zero_le i), fun r hr => (found.within r hr).2, found.apart, ?_⟩
  have := length_of_runs (runsOf p) 0 (by omega) found.within found.apart
  omega

/-! ## A run touches no object (R29) -/

section
variable {stamp : Count} {mags : Vector Byte 32} {conts : List Span} {ws : List Working} {run : Span}

theorem filter_touched_of_untouched (none : ∀ w ∈ ws, w.touchedBy run = false) : ws.filter (fun w => w.touchedBy run) = [] :=
  List.filter_eq_nil_iff.mpr fun w hw => by simp [none w hw]

theorem handleRun_of_full (none : ∀ w ∈ ws, w.touchedBy run = false) (full : 16 ≤ ws.length) :
    handleRun stamp mags conts ws run = (ws, true) := by
  simp only [handleRun, filter_touched_of_untouched none]
  exact if_pos full

theorem handleRun_of_room (none : ∀ w ∈ ws, w.touchedBy run = false) (room : ws.length < 16) :
    handleRun stamp mags conts ws run
      = (ws ++ [newObject stamp run (runMagnitudes mags run) (conts.any run.near)], false) := by
  simp only [handleRun, filter_touched_of_untouched none]
  exact if_neg (Nat.not_le.mpr room)

/-! ## A run touches objects (R30, R31) -/

theorem Span.join_comm (a b : Span) : a.join b = b.join a := by simp [Span.join, Nat.min_comm, Nat.max_comm]

/-- The object extended alone is the merge of no others (R30, R31). -/
theorem Working.extend_eq_mergeRun (w : Working) (stamp : Count) (run : Span) (cells : List Nat) (cont : Bool) :
    w.extend stamp run cells cont = mergeRun w [] stamp run cells cont := by
  unfold Working.extend mergeRun mergedSpan
  by_cases extended : w.extended = true
  · simp [extended, Span.join_comm]
  · simp [extended]

theorem replaceTouched_split {front back : List Working} {w : Working} (m : Working) (before : ∀ x ∈ front, x.touchedBy run = false)
    (touched : w.touchedBy run = true) :
    replaceTouched run m (front ++ w :: back) = front ++ m :: back.filter (fun x => !x.touchedBy run) := by
  induction front with
  | nil => simp [replaceTouched, touched]
  | cons x rest ih =>
    rw [List.cons_append, replaceTouched, if_neg (by simp [before x List.mem_cons_self]),
      ih fun y hy => before y (List.mem_cons_of_mem _ hy), List.cons_append]

/-- A run that touches objects leaves their merge in the place of the first of them (R30, R31). -/
theorem handleRun_of_touched {front back : List Working} {w : Working} (before : ∀ x ∈ front, x.touchedBy run = false)
    (touched : w.touchedBy run = true) :
    handleRun stamp mags conts (front ++ w :: back) run
      = (front ++ mergeRun w (back.filter fun x => x.touchedBy run) stamp run (runMagnitudes mags run) (conts.any run.near)
          :: back.filter (fun x => !x.touchedBy run), false) := by
  have filtered : (front ++ w :: back).filter (fun x => x.touchedBy run) = w :: back.filter fun x => x.touchedBy run := by
    rw [List.filter_append, filter_touched_of_untouched before, List.filter_cons, if_pos touched, List.nil_append]
  simp only [handleRun, filtered]
  split
  case h_1 none => cases none
  case h_2 x one =>
    obtain ⟨rfl, none⟩ := List.cons.inj one
    rw [none, Working.extend_eq_mergeRun, replaceTouched_split _ before touched]
  case h_3 x others _ split =>
    obtain ⟨rfl, rfl⟩ := List.cons.inj split
    rw [replaceTouched_split _ before touched]

end

/-! ## The values of a merged object -/

/-- A saturating sum of several areas is the sum cut once. -/
theorem foldl_addUpTo (limit n : Nat) (f : Working → Nat) (xs : List Working) : ∀ a,
    addUpTo limit (xs.foldl (fun a x => addUpTo limit a (f x)) a) n = min limit (a + (xs.map f).sum + n) := by
  induction xs with
  | nil => intro a; rfl
  | cons x rest ih =>
    intro a
    rw [List.foldl_cons, ih, List.map_cons, List.sum_cons]
    simp only [addUpTo]
    omega

/-- A bound taken at the end is a bound taken at the start. -/
theorem foldl_pull {α β : Type} (op : α → α → α) (assoc : ∀ a b c, op (op a b) c = op a (op b c)) (comm : ∀ a b, op a b = op b a)
    (f : β → α) (xs : List β) (a c : α) :
    op (xs.foldl (fun a x => op a (f x)) a) c = xs.foldl (fun a x => op a (f x)) (op c a) := by
  rw [comm]
  exact (List.foldl_hom (op c) fun x y => assoc c x (f y)).symm

theorem foldl_or_eq_true {β : Type} (f : β → Bool) (xs : List β) : ∀ a,
    xs.foldl (fun a x => a || f x) a = true ↔ a = true ∨ ∃ x ∈ xs, f x = true := by
  induction xs with
  | nil => simp
  | cons x rest ih =>
    intro a
    simp [ih, or_assoc]

/-- A value of objects united one after another. -/
theorem foldl_unite {α : Type} (value : Working → α) (op : α → Working → α) (unites : ∀ w x, value (w.unite x) = op (value w) x)
    (others : List Working) (w : Working) : value (others.foldl Working.unite w) = others.foldl op (value w) :=
  (List.foldl_hom value fun w x => (unites w x).symm).symm

section
variable (w : Working) (others : List Working) (stamp : Count) (run : Span) (cells : List Nat) (cont : Bool)

theorem mergeRun_prior : (mergeRun w others stamp run cells cont).prior = (w :: others).flatMap Working.prior := by
  have : others.foldl (fun a x => a ++ x.prior) w.prior = w.prior ++ others.flatMap Working.prior := by
    induction others generalizing w with
    | nil => simp
    | cons x rest ih => simpa [List.append_assoc] using ih (w.unite x)
  exact (foldl_unite Working.prior _ (fun _ _ => rfl) others w).trans (this.trans List.flatMap_cons.symm)

theorem mergeRun_firstTouched : (mergeRun w others stamp run cells cont).obj.firstTouched
    = others.foldl (fun a x => earlier a x.obj.firstTouched) w.obj.firstTouched :=
  foldl_unite (fun w => w.obj.firstTouched) _ (fun _ _ => rfl) others w

theorem mergeRun_area : (mergeRun w others stamp run cells cont).obj.area
    = min 65535 (((w :: others).map fun x => x.obj.area).sum + cells.length) := by
  rw [List.map_cons, List.sum_cons, ← foldl_addUpTo 65535 cells.length (fun x => x.obj.area) others w.obj.area,
    ← foldl_unite (fun w => w.obj.area) (fun a x => addUpTo 65535 a x.obj.area) (fun _ _ => rfl)]
  rfl

theorem mergeRun_magnitudeSum : (mergeRun w others stamp run cells cont).obj.magnitudeSum
    = min 16777215 (((w :: others).map fun x => x.obj.magnitudeSum).sum + cells.sum) := by
  rw [List.map_cons, List.sum_cons, ← foldl_addUpTo 16777215 cells.sum (fun x => x.obj.magnitudeSum) others w.obj.magnitudeSum,
    ← foldl_unite (fun w => w.obj.magnitudeSum) (fun a x => addUpTo 16777215 a x.obj.magnitudeSum) (fun _ _ => rfl)]
  rfl

theorem mergeRun_peak : (mergeRun w others stamp run cells cont).obj.peak
    = cells.foldl max (others.foldl (fun a x => max a x.obj.peak) w.obj.peak) := by
  rw [← foldl_unite (fun w => w.obj.peak) _ (fun _ _ => rfl)]
  change max _ (cells.foldl max 0) = _
  rw [← List.foldl_hom (max (others.foldl Working.unite w).obj.peak) (g₂ := max) fun x y => max_assoc _ x y, Nat.max_zero]

theorem mergeRun_laneSpan_first : (mergeRun w others stamp run cells cont).obj.laneSpan.first
    = (w :: others).foldl (fun a x => min a x.obj.laneSpan.first) run.first := by
  rw [List.foldl_cons, ← foldl_pull min min_assoc min_comm (fun x : Working => x.obj.laneSpan.first) others,
    ← foldl_unite (fun w => w.obj.laneSpan.first) (fun a x => min a x.obj.laneSpan.first) (fun _ _ => rfl)]
  rfl

theorem mergeRun_laneSpan_last : (mergeRun w others stamp run cells cont).obj.laneSpan.last
    = (w :: others).foldl (fun a x => max a x.obj.laneSpan.last) run.last := by
  rw [List.foldl_cons, ← foldl_pull max max_assoc max_comm (fun x : Working => x.obj.laneSpan.last) others,
    ← foldl_unite (fun w => w.obj.laneSpan.last) (fun a x => max a x.obj.laneSpan.last) (fun _ _ => rfl)]
  rfl

theorem mergeRun_cont : (mergeRun w others stamp run cells cont).obj.cont = true
    ↔ (∃ x ∈ w :: others, x.obj.cont = true) ∨ cont = true := by
  have united := foldl_unite (fun w => w.obj.cont) (fun a x => a || x.obj.cont) (fun _ _ => rfl) others w
  change ((others.foldl Working.unite w).obj.cont || cont) = true ↔ _
  rw [united, Bool.or_eq_true, foldl_or_eq_true, List.exists_mem_cons_iff]

end

/-- Settles O25: a run is added as an object of its own, or the objects it touches are united and it is counted to them. -/
theorem runOpensExtendsOrMerges : Obligations.RunOpensExtendsOrMerges := by
  intro stamp mags conts ws run
  refine ⟨fun untouched => ⟨handleRun_of_full untouched, fun room => ?_⟩, fun front w back split before touched => ?_⟩
  · rw [handleRun_of_room untouched room]
    exact ⟨rfl, _, rfl, rfl, rfl, rfl, rfl, rfl, rfl, rfl, rfl, rfl, List.any_eq_true⟩
  · subst split
    rw [handleRun_of_touched before touched]
    refine ⟨rfl, _, rfl, rfl, mergeRun_prior .., rfl, mergeRun_firstTouched .., mergeRun_area .., mergeRun_magnitudeSum ..,
      mergeRun_peak .., mergeRun_laneSpan_first .., mergeRun_laneSpan_last .., ?_, ?_, ?_⟩
    · exact (List.foldl_hom Span.first fun _ _ => rfl).symm
    · exact (List.foldl_hom Span.last fun _ _ => rfl).symm
    · rw [mergeRun_cont, List.any_eq_true]

end Sys2Proof.Machine

/-! PROOF. Which tallies and flags the shared operations may move: a relation between states, closed under composition, and the
rules of offers, attempts and scans. -/

namespace Sys2Proof.Machine

/-- From `s` to `t` no tally but those listed and no flag but those listed has changed. -/
def State.records (s t : State) (xs : List Tally) (fs : List Flag) : Prop := s.talliesOnly t xs ∧ s.flagsOnly t fs

theorem State.records.refl (s : State) (xs : List Tally) (fs : List Flag) : s.records s xs fs := ⟨fun _ _ => rfl, fun _ _ => rfl⟩

theorem State.records.trans {s t u : State} {xs : List Tally} {fs : List Flag} (h : s.records t xs fs) (k : t.records u xs fs) :
    s.records u xs fs :=
  ⟨fun x hx => (k.1 x hx).trans (h.1 x hx), fun f hf => (k.2 f hf).trans (h.2 f hf)⟩

theorem State.records.mono {s t : State} {xs ys : List Tally} {fs gs : List Flag} (h : s.records t xs fs) (tallies : ∀ x ∈ xs, x ∈ ys)
    (flags : ∀ f ∈ fs, f ∈ gs) : s.records t ys gs :=
  ⟨fun x hx => h.1 x fun hm => hx (tallies x hm), fun f hf => h.2 f fun hm => hf (flags f hm)⟩

theorem State.records.ite {s t u : State} {xs : List Tally} {fs : List Flag} (c : Prop) [Decidable c] (h : s.records t xs fs)
    (k : s.records u xs fs) : s.records (if c then t else u) xs fs := by
  split
  · exact h
  · exact k

theorem State.records.foldl {α : Type} {xs : List Tally} {fs : List Flag} (f : State → α → State)
    (h : ∀ (s : State) (a : α), s.records (f s a) xs fs) (as : List α) : ∀ s : State, s.records (as.foldl f s) xs fs := by
  induction as with
  | nil => exact fun s => .refl s _ _
  | cons a as ih => exact fun s => (h s a).trans (ih (f s a))

/-- Where neither tallies nor flags change, nothing is recorded. -/
theorem State.changesOnly.records {s t : State} {ps : List Part} (only : s.changesOnly t ps) (tallies : Part.tallies ∉ ps)
    (flags : Part.flags ∉ ps) (xs : List Tally) (fs : List Flag) : s.records t xs fs :=
  ⟨fun x _ => congrArg (·[x.index]) (only .tallies tallies), fun f _ => congrArg (·.getLsbD f.bit) (only .flags flags)⟩

/-- Where the flags do not change, only tallies are recorded. -/
theorem State.changesOnly.flagsOnly {s t : State} {ps : List Part} (only : s.changesOnly t ps) (flags : Part.flags ∉ ps)
    (fs : List Flag) : s.flagsOnly t fs :=
  fun f _ => congrArg (·.getLsbD f.bit) (only .flags flags)

theorem State.bumpBy_records (s : State) (x : Tally) (n : Nat) (fs : List Flag) : s.records (s.bumpBy x n) [x] fs :=
  ⟨fun y other => s.bumpBy_counts_other x y n (by simpa using other), (s.bumpBy_only x n).flagsOnly (by simp) fs⟩

theorem State.bump_records (s : State) (x : Tally) (fs : List Flag) : s.records (s.bump x) [x] fs := s.bumpBy_records x 1 fs

theorem State.raise_records (s : State) (f : Flag) (xs : List Tally) : s.records (s.raise f) xs [f] :=
  ⟨fun _ _ => rfl, s.raise_flagsOnly f⟩

theorem State.bump_raise_records (s : State) (x : Tally) (f : Flag) : s.records ((s.bump x).raise f) [x] [f] :=
  (s.bump_records x _).trans (State.raise_records _ f _)

/-- A tally counts on where nothing records it after. -/
theorem State.counts.then {s t u : State} {x : Tally} {n : Nat} {xs : List Tally} {fs : List Flag} (h : s.counts t x n)
    (k : t.records u xs fs) (aside : x ∉ xs) : s.counts u x n := by
  rw [State.counts, k.1 x aside]
  exact h

/-- A tally counts after a step that does not record it. -/
theorem State.records.counts {s t u : State} {x : Tally} {n : Nat} {xs : List Tally} {fs : List Flag} (h : s.records t xs fs)
    (k : t.counts u x n) (aside : x ∉ xs) : s.counts u x n := by
  rw [State.counts, ← h.1 x aside]
  exact k

theorem State.counts_zero (s : State) (x : Tally) : s.counts s x 0 := by
  have := (s.tally x).isLt
  simp only [State.counts]
  omega

/-! ## Link transmitter -/

theorem State.enqueueUrgent_records (s : State) (u : Urgent) : s.records (s.enqueueUrgent u) [.urgentDrop, .muteDrop] [] := by
  unfold State.enqueueUrgent
  refine .ite _ (.refl _ _ _) (.ite _ ?_ (.ite _ ?_ ⟨fun _ _ => rfl, fun _ _ => rfl⟩))
  · exact (s.bump_records .muteDrop []).mono (by simp) (by simp)
  · exact (s.bump_records .urgentDrop []).mono (by simp) (by simp)

theorem State.enqueueSighting_records (s : State) (x : Sighting) :
    s.records (s.enqueueSighting x) [.sightDrop, .muteDrop] [] := by
  unfold State.enqueueSighting
  refine .ite _ (.refl _ _ _) (.ite _ ?_ (.ite _ ?_ ⟨fun _ _ => rfl, fun _ _ => rfl⟩))
  · exact (s.bump_records .muteDrop []).mono (by simp) (by simp)
  · exact (s.bump_records .sightDrop []).mono (by simp) (by simp)

theorem State.begin_records (s : State) : s.records s.begin [.stale] [] := by
  have lesser (t : State) : t.records t.sendLesser [.stale] [] := t.sendLesser_only.records (by simp) (by simp) _ _
  have latched : s.records s.latch [.stale] [] := s.latch_only.records (by simp) (by simp) _ _
  have dropped (t : State) : t.records t.dropStale [.stale] [] :=
    State.records.trans ⟨fun _ _ => rfl, fun _ _ => rfl⟩ (State.bumpBy_records _ _ _ _)
  refine .ite _ (latched.trans ?_) (.refl _ _ _)
  unfold State.sendHead
  split
  · exact (State.send_only _ _ _).records (by simp) (by simp) _ _
  · exact (dropped _).trans (lesser _)

theorem State.offer_records (s : State) (u : Urgent) : s.records (s.offer u) [.urgentDrop, .muteDrop, .stale] [] :=
  ((s.enqueueUrgent_records u).mono (by simp) (by simp)).trans ((State.begin_records _).mono (by simp) (by simp))

theorem State.offerSighting_records (s : State) (x : Sighting) :
    s.records (s.offerSighting x) [.sightDrop, .muteDrop, .stale] [] :=
  ((s.enqueueSighting_records x).mono (by simp) (by simp)).trans ((State.begin_records _).mono (by simp) (by simp))

/-- No attempt begins on a line that is not idle (R53). -/
theorem State.begin_of_busy (s : State) (busy : s.line.status ≠ .idle) : s.begin = s := by
  simp [State.begin, State.mayBegin, busy]

/-! ### What an offer does, case by case (R51, R52) -/

theorem State.operating_of {s : State} (operating : s.mode ≠ .setup) : s.operating = true := by simp [State.operating, operating]

theorem State.enqueueUrgent_of_mute {s : State} {u : Urgent} (operating : s.mode ≠ .setup) (mute : s.tx.mute = true) :
    s.enqueueUrgent u = s.bump .muteDrop := by
  simp only [State.enqueueUrgent, State.operating_of operating, mute, Bool.not_true, Bool.false_eq_true, if_false, if_true]

theorem State.enqueueUrgent_of_full {s : State} {u : Urgent} (operating : s.mode ≠ .setup) (loud : s.tx.mute = false)
    (full : 8 ≤ s.tx.urgent.length) : s.enqueueUrgent u = s.bump .urgentDrop := by
  simp only [State.enqueueUrgent, State.operating_of operating, loud, Bool.not_true, Bool.false_eq_true, if_false]
  exact if_pos full

theorem State.enqueueUrgent_of_room {s : State} {u : Urgent} (operating : s.mode ≠ .setup) (loud : s.tx.mute = false)
    (room : s.tx.urgent.length < 8) :
    s.enqueueUrgent u = { s with tx := { s.tx with urgent := s.tx.urgent ++ [{ content := u, errors := 0 }] } } := by
  simp only [State.enqueueUrgent, State.operating_of operating, Bool.not_true, Bool.false_eq_true, if_false]
  rw [if_neg (by simp [loud])]
  exact if_neg (Nat.not_le.mpr room)

theorem State.enqueueSighting_of_mute {s : State} {x : Sighting} (operating : s.mode ≠ .setup) (mute : s.tx.mute = true) :
    s.enqueueSighting x = s.bump .muteDrop := by
  simp only [State.enqueueSighting, State.operating_of operating, mute, Bool.not_true, Bool.false_eq_true, if_false, if_true]

theorem State.enqueueSighting_of_full {s : State} {x : Sighting} (operating : s.mode ≠ .setup) (loud : s.tx.mute = false)
    (full : 16 ≤ s.tx.sightings.length) : s.enqueueSighting x = s.bump .sightDrop := by
  simp only [State.enqueueSighting, State.operating_of operating, loud, Bool.not_true, Bool.false_eq_true, if_false]
  exact if_pos full

theorem State.enqueueSighting_of_room {s : State} {x : Sighting} (operating : s.mode ≠ .setup) (loud : s.tx.mute = false)
    (room : s.tx.sightings.length < 16) :
    s.enqueueSighting x = { s with tx := { s.tx with sightings := s.tx.sightings ++ [{ sighting := x, errors := 0 }] } } := by
  simp only [State.enqueueSighting, State.operating_of operating, Bool.not_true, Bool.false_eq_true, if_false]
  rw [if_neg (by simp [loud])]
  exact if_neg (Nat.not_le.mpr room)

theorem State.placeStatus_of_mute {s : State} (operating : s.mode ≠ .setup) (mute : s.tx.mute = true) :
    s.placeStatus = s.bump .muteDrop := by
  simp only [State.placeStatus, State.operating_of operating, mute, Bool.not_true, Bool.false_eq_true, if_false, if_true]

theorem State.placeStatus_of_loud {s : State} (operating : s.mode ≠ .setup) (loud : s.tx.mute = false) :
    s.placeStatus = { s with tx := { s.tx with beacon := some 0, attempt := s.tx.attempt.map Attempt.replace } } := by
  simp only [State.placeStatus, State.operating_of operating, Bool.not_true, Bool.false_eq_true, if_false]
  exact if_neg (by simp [loud])

/-! ## Scans -/

/-- The tallies that the end of objects may move. -/
abbrev closingTallies : List Tally := [.fines, .sightDrop, .muteDrop, .stale]

theorem State.closeObject_records (s : State) (o : OpenObject) (cut : Bool) : s.records (s.closeObject o cut) closingTallies [] := by
  unfold State.closeObject
  refine .ite _ ((s.bump_records .fines []).mono (by simp) (by simp)) ?_
  refine State.records.trans ?_ ((State.handOver_only _ _).records (by simp) (by simp) _ _)
  exact ((s.setScan_only _).records (by simp) (by simp) _ _).trans ((State.offerSighting_records _ _).mono (by simp) (by simp))

theorem State.closeWorking_records (stamp : Count) (s : State) (w : Working) :
    s.records (State.closeWorking stamp s w) closingTallies [] := by
  unfold State.closeWorking
  split
  · exact .refl _ _ _
  · exact s.closeObject_records _ _
  · exact s.closeObject_records _ _

theorem State.countIgnored_records (s : State) (n : Nat) : s.records (s.countIgnored n) [.objOverflow] [.objOverflow] :=
  .ite _ (.refl _ _ _) ((s.bumpBy_records _ _ _).trans (State.raise_records _ _ _))

/-- The tallies that a processed scan may move. -/
abbrev scanTallies : List Tally := .objOverflow :: closingTallies

theorem State.processScan_records (s : State) (stamp : Count) : s.records (s.processScan stamp) scanTallies [.objOverflow] := by
  rw [s.processScan_eq]
  refine State.records.trans ?_ ((State.records.foldl _ (State.closeWorking_records stamp) _ _).mono (by simp) (by simp))
  refine State.records.trans ((s.setScan_only (s.scanned stamp)).records (by simp) (by simp) _ _) ?_
  exact (State.countIgnored_records _ _).mono (by simp) (by simp)

end Sys2Proof.Machine

/-! PROOF. Scans and exchanges (R22 to R26, R32 to R38): what the end of a scan does to its objects, and what the end of an exchange
does to its own scan and the waiting ones. -/

namespace Sys2Proof.Machine

/-! ## Objects that no run touches -/

/-- Either a run touches no object, or there is a first one that it touches. -/
theorem touched_or_untouched (ws : List Working) (run : Span) : (∀ w ∈ ws, w.touchedBy run = false)
    ∨ ∃ front w back, ws = front ++ w :: back ∧ (∀ x ∈ front, x.touchedBy run = false) ∧ w.touchedBy run = true := by
  by_cases touches : ∃ w ∈ ws, w.touchedBy run = true
  · obtain ⟨w, listed, touched⟩ := touches
    obtain ⟨first, front, back, before, touched, split, -⟩ := List.exists_of_eraseP (p := fun w => w.touchedBy run) listed touched
    exact .inr ⟨front, first, back, split, fun x hx => by simpa using before x hx, touched⟩
  · exact .inl (by simpa using touches)

/-- A run takes the objects it touches out of those no run has extended, and no other. -/
theorem handleRun_unextended (stamp : Count) (mags : Vector Byte 32) (conts : List Span) (ws : List Working) (run : Span) :
    (handleRun stamp mags conts ws run).1.filter (fun w => !w.extended)
      = (ws.filter fun w => !w.extended).filter fun w => !w.touchedBy run := by
  rw [List.filter_comm]
  rcases touched_or_untouched ws run with untouched | ⟨front, w, back, rfl, before, touched⟩
  · have kept : ws.filter (fun w => !w.touchedBy run) = ws := List.filter_eq_self.mpr fun w hw => by simp [untouched w hw]
    rw [kept]
    rcases Nat.lt_or_ge ws.length 16 with room | full
    · rw [handleRun_of_room untouched room, List.filter_append]
      simp [newObject]
    · rw [handleRun_of_full untouched full]
  · have kept : front.filter (fun w => !w.touchedBy run) = front := List.filter_eq_self.mpr fun w hw => by simp [before w hw]
    rw [handleRun_of_touched before touched]
    simp [kept, touched, mergeRun, Working.count]

theorem handleRuns_unextended (stamp : Count) (mags : Vector Byte 32) (conts : List Span) (runs : List Span) : ∀ ws,
    (handleRuns stamp mags conts ws runs).1.filter (fun w => !w.extended)
      = (ws.filter fun w => !w.extended).filter fun w => runs.all fun run => !w.touchedBy run := by
  induction runs with
  | nil => intro ws; simp [handleRuns]
  | cons run rest ih =>
    intro ws
    rw [handleRuns, ih, handleRun_unextended, List.filter_filter]
    simp only [List.all_cons, Bool.and_comm]

/-- Before the runs of a scan no object has been extended, and each is tested with its last-scan span (R28). -/
theorem working_unextended (objects : List OpenObject) (runs : List Span) :
    ((objects.map OpenObject.working).filter fun w => !w.extended).filter (fun w => runs.all fun run => !w.touchedBy run)
      = (objects.filter fun o => runs.all fun run => !run.near o.lastScanSpan).map OpenObject.working := by
  have fresh : (objects.map OpenObject.working).filter (fun w => !w.extended) = objects.map OpenObject.working :=
    List.filter_eq_self.mpr fun w hw => by
      obtain ⟨o, -, rfl⟩ := List.mem_map.mp hw
      rfl
  rw [fresh, List.filter_map]
  simp [Function.comp_def, OpenObject.working, Working.touchedBy]

/-! ## Closings (R32, R33) -/

/-- An object touched in this scan that has reached the maximum sighting length. -/
def Working.long (w : Working) (stamp : Count) (maxLength : Nat) : Bool :=
  decide ((maxLength : Int) ≤ distance w.obj.firstTouched stamp)

theorem Working.closing_open (w : Working) (stamp : Count) (maxLength : Nat) :
    decide (w.closing stamp maxLength = .open_) = (w.extended && !w.long stamp maxLength) := by
  unfold Working.closing Working.long
  cases w.extended
  · rfl
  · by_cases long : (maxLength : Int) ≤ distance w.obj.firstTouched stamp <;> simp [long]

theorem Working.closing_cut (w : Working) (stamp : Count) (maxLength : Nat) :
    decide (w.closing stamp maxLength = .cut) = (w.extended && w.long stamp maxLength) := by
  unfold Working.closing Working.long
  cases w.extended
  · rfl
  · by_cases long : (maxLength : Int) ≤ distance w.obj.firstTouched stamp <;> simp [long]

theorem State.closeWorking_eq (s : State) (stamp : Count) (w : Working) :
    State.closeWorking stamp s w
      = if !w.extended || w.long stamp s.record.maxSightingLength then s.closeObject w.obj w.extended else s := by
  unfold State.closeWorking Working.closing Working.long
  cases extended : w.extended
  · rfl
  · by_cases long : (s.record.maxSightingLength : Int) ≤ distance w.obj.firstTouched stamp <;> simp [long]

/-- The closings are those of the objects ended and cut, in list order. -/
theorem State.closeWorkings_eq (stamp : Count) (ws : List Working) : ∀ s : State,
    ws.foldl (State.closeWorking stamp) s
      = (ws.filter fun w => !w.extended || w.long stamp s.record.maxSightingLength).foldl
          (fun x w => x.closeObject w.obj w.extended) s := by
  induction ws with
  | nil => exact fun _ => rfl
  | cons w rest ih =>
    intro s
    have record : (State.closeWorking stamp s w).record = s.record := State.closeWorking_only stamp s w .record (by simp)
    rw [List.foldl_cons, ih, record, List.filter_cons, s.closeWorking_eq]
    split <;> rfl

/-! ## Ignored runs (R29) -/

theorem State.countIgnored_counts (s : State) (n : Nat) : s.counts (s.countIgnored n) .objOverflow n := by
  unfold State.countIgnored
  split
  next none => rw [none]; exact s.counts_zero _
  · exact s.bumpBy_counts _ n

theorem State.countIgnored_flag (s : State) (n : Nat) :
    (s.countIgnored n).flagSet .objOverflow = (s.flagSet .objOverflow || decide (n ≠ 0)) := by
  unfold State.countIgnored
  split
  next none => simp [none]
  next some =>
    rw [State.raise_sets]
    simp [some]

theorem State.countIgnored_only (s : State) (n : Nat) : s.changesOnly (s.countIgnored n) [.tallies, .flags] :=
  .ite _ (.refl _ _) ((s.bumpBy_only _ _).then (State.raise_only _ _) (by simp) (by simp))

/-! ## A processed scan -/

/-- What a processed scan leaves of the scan unit: the closings take serials alone. -/
theorem State.processScan_scan (s : State) (stamp : Count) :
    ∃ n, (s.processScan stamp).scan = { s.scanned stamp with serial := n } := by
  rw [s.processScan_eq]
  obtain ⟨n, closed⟩ := State.closeWorkings_scan stamp (s.handled stamp).1
    (State.countIgnored { s with scan := s.scanned stamp } (s.handled stamp).2)
  exact ⟨n, closed.trans (by rw [State.countIgnored_only _ _ .scan (by simp)])⟩

/-- The first enabled band that holds the mean gives hint and strength (R37). -/
theorem hintOf_of_first {pre post : List Band} {b : Band} {mean : Nat} (enabled : b.enabled = true) (low : b.lo ≤ mean)
    (high : mean ≤ b.hi) (before : ∀ p ∈ pre, p.enabled = true → p.lo ≤ mean → ¬ mean ≤ p.hi) :
    hintOf mean (pre ++ b :: post) = (b.cls, mean) := by
  induction pre with
  | nil => simp [hintOf, enabled, low, high]
  | cons p rest ih =>
    rw [List.cons_append, hintOf, if_neg, ih fun q hq => before q (List.mem_cons_of_mem _ hq)]
    simpa using before p List.mem_cons_self

theorem hintOf_of_none {bands : List Band} {mean : Nat} (none : ∀ p ∈ bands, p.enabled = true → p.lo ≤ mean → ¬ mean ≤ p.hi) :
    hintOf mean bands = (.unknown, 0) := by
  induction bands with
  | nil => rfl
  | cons p rest ih =>
    rw [hintOf, if_neg, ih fun q hq => none q (List.mem_cons_of_mem _ hq)]
    simpa using none p List.mem_cons_self

/-! ## A closed object (R35 to R40) -/

theorem State.closeObject_of_fines {s : State} {o : OpenObject} {cut : Bool} (fines : o.area < s.record.minArea) :
    s.closeObject o cut = s.bump .fines := if_pos fines

theorem State.closeObject_of_area {s : State} {o : OpenObject} {cut : Bool} (area : s.record.minArea ≤ o.area) :
    s.closeObject o cut
      = ({ s with scan := { s.scan with serial := s.scan.serial + 1 } }.offerSighting (s.sightingOf o cut)).handOver
          (s.sightingOf o cut) := if_neg (Nat.not_lt.mpr area)

theorem State.handOver_localSightings (s : State) (x : Sighting) :
    (s.handOver x).localSightings = if s.record.role = .both then s.localSightings ++ [x] else s.localSightings := by
  unfold State.handOver
  split <;> rfl

/-- On a line that is not idle an offered sighting waits, or is dropped at 16 (R39, R51). -/
theorem State.offerSighting_of_busy {s : State} {x : Sighting} (operating : s.mode ≠ .setup) (loud : s.tx.mute = false)
    (busy : s.line.status ≠ .idle) :
    (s.offerSighting x).tx.sightings
      = if s.tx.sightings.length < 16 then s.tx.sightings ++ [{ sighting := x, errors := 0 }] else s.tx.sightings := by
  have line : (s.enqueueSighting x).line = s.line := s.enqueueSighting_only x .line (by simp)
  rw [State.offerSighting, State.begin_of_busy _ (by rwa [line])]
  by_cases room : s.tx.sightings.length < 16
  · rw [State.enqueueSighting_of_room operating loud room, if_pos room]
  · rw [State.enqueueSighting_of_full operating loud (Nat.not_lt.mp room), if_neg room]
    rfl

/-- Settles O26: the runs leave the untouched objects as they were, the closings fold over the others, and each closing's effect is
fines or its sighting. -/
theorem closedObjectBecomesSighting : Obligations.ClosedObjectBecomesSighting := by
  refine ⟨?_, fun s o cut => ⟨State.closeObject_of_fines, fun area => ?_⟩⟩
  · intro s stamp t runs handled long
    obtain ⟨n, scan⟩ := s.processScan_scan stamp
    have runsEq : runs = runsOf (filterPresence s.scan.heldPresence s.scan.lastRaw s.scan.filtered) :=
      congrArg runsOf (s.processScan_presence stamp).2
    have handledEq : handled = s.handled stamp := by
      refine (handleRuns_foldl _ _ _ runs _ 0).trans ?_
      rw [Nat.zero_add, runsEq]
      rfl
    rw [handledEq, runsEq]
    refine ⟨?_, ?_, ?_, State.countIgnored { s with scan := s.scanned stamp } (s.handled stamp).2, ?_, ?_, ?_, ?_, ?_, ?_, ?_⟩
    · exact (handleRuns_unextended _ _ _ _ _).trans (working_unextended _ _)
    · rw [scan]
      simp only [State.scanned, Working.closing_open]
      rfl
    · rw [scan]
      simp only [State.scanned, Working.closing_cut]
      rfl
    · have record : (State.countIgnored { s with scan := s.scanned stamp } (s.handled stamp).2).record = s.record :=
        State.countIgnored_only _ _ .record (by simp)
      change s.processScan stamp = _
      rw [s.processScan_eq, State.closeWorkings_eq, record]
      rfl
    · rw [scan]
      exact State.countIgnored_only _ _ .scan (by simp)
    · exact State.countIgnored_counts { s with scan := s.scanned stamp } _
    · exact State.countIgnored_flag { s with scan := s.scanned stamp } _
    · exact (State.countIgnored_records { s with scan := s.scanned stamp } _).1
    · exact (State.countIgnored_records { s with scan := s.scanned stamp } _).2
    · exact (s.setScan_only _).then (State.countIgnored_only _ _) (by simp) (by simp)
  · rw [State.closeObject_of_area area]
    have record : ∀ x y, ((({ s with scan := x } : State).offerSighting y).record = s.record) := fun x y =>
      State.offerSighting_only _ y .record (by simp)
    refine ⟨s.sightingOf o cut, rfl, rfl, rfl, rfl, rfl, rfl, rfl, rfl, rfl, rfl, rfl, rfl, ?_, ?_, ?_, ?_, ?_, ?_⟩
    · intro pre b post bands enabled low high before
      simp only [State.sightingOf, bands, hintOf_of_first enabled low high before, and_self]
    · intro none
      simp only [State.sightingOf, hintOf_of_none none, and_self]
    · refine State.changesOnly.then (ps := .scan :: linkParts) ?_ (State.handOver_only _ _) (by simp) (by simp)
      exact (s.setScan_only _).then (State.offerSighting_only _ _) (by simp) (by simp)
    · exact ((State.handOver_only _ _) .scan (by simp)).trans (State.offerSighting_only _ _ .scan (by simp))
    · rw [State.handOver_localSightings, record, State.offerSighting_only _ _ .localSightings (by simp)]
    · intro operating loud busy
      rw [State.handOver_only _ _ .tx (by simp)]
      exact State.offerSighting_of_busy (s := { s with scan := _ }) operating loud busy

/-! ## The end of an exchange (R22 to R25) -/

/-- Line, link and waiting scans, which a processed scan does not touch. -/
def ScanUnit.sameLine (u v : ScanUnit) : Prop :=
  v.link = u.link ∧ v.waiting = u.waiting ∧ v.heldPresence = u.heldPresence ∧ v.heldMagnitudes = u.heldMagnitudes

theorem State.processScan_sameLine (s : State) (stamp : Count) : s.scan.sameLine (s.processScan stamp).scan := by
  obtain ⟨n, scan⟩ := s.processScan_scan stamp
  rw [scan]
  exact ⟨rfl, rfl, rfl, rfl⟩

/-- The link IDLE and nothing waiting. -/
def State.rested (x : State) : State := { x with scan := { x.scan with link := .idle, waiting := 0 } }

/-- Several waiting scans processed with the stamps that follow one stamp (R23, R24). -/
def State.worked (x : State) (stamp : Count) (pitch n : Nat) : State :=
  (List.range n).foldl (fun y k => y.processScan (stamp + BitVec.ofNat 24 ((k + 1) * pitch))) x

theorem State.processWaiting_eq (n : Nat) : ∀ (s : State) (stamp : Count),
    s.processWaiting stamp n = s.worked stamp s.record.scanPitch n := by
  induction n with
  | zero => exact fun _ _ => rfl
  | succ n ih =>
    intro s stamp
    have record : (s.processScan (stamp + BitVec.ofNat 24 s.record.scanPitch)).record = s.record :=
      s.processScan_only _ .record (by simp)
    rw [State.processWaiting, ih, record, State.worked, State.worked, List.range_succ_eq_map, List.foldl_cons, List.foldl_map,
      Nat.zero_add, Nat.one_mul]
    congr 1
    funext y k
    congr 1
    rw [BitVec.add_assoc, ← BitVec.ofNat_add, Nat.succ_mul (k + 1), Nat.add_comm s.record.scanPitch]

theorem State.worked_sameLine (x : State) (stamp : Count) (pitch n : Nat) : x.scan.sameLine (x.worked stamp pitch n).scan := by
  induction n with
  | zero => exact ⟨rfl, rfl, rfl, rfl⟩
  | succ n ih =>
    obtain ⟨link, waiting, presence, magnitudes⟩ := ih
    obtain ⟨link', waiting', presence', magnitudes'⟩ := (x.worked stamp pitch n).processScan_sameLine
      (stamp + BitVec.ofNat 24 ((n + 1) * pitch))
    rw [State.worked, List.range_succ, List.foldl_append]
    exact ⟨link'.trans link, waiting'.trans waiting, presence'.trans presence, magnitudes'.trans magnitudes⟩

theorem State.worked_records (x : State) (stamp : Count) (pitch n : Nat) :
    x.records (x.worked stamp pitch n) scanTallies [.objOverflow] :=
  State.records.foldl _ (fun y _ => y.processScan_records _) _ x

theorem State.worked_only (x : State) (stamp : Count) (pitch n : Nat) : x.changesOnly (x.worked stamp pitch n) scanParts :=
  State.changesOnly.foldl _ (fun y _ => y.processScan_only _) _ x

/-- The link rests, then the waiting scans are processed. -/
theorem State.rested_worked (x : State) (stamp : Count) (pitch n : Nat) :
    (x.rested.worked stamp pitch n).scan.link = .idle ∧ (x.rested.worked stamp pitch n).scan.waiting = 0
      ∧ (x.rested.worked stamp pitch n).scan.heldPresence = x.scan.heldPresence
      ∧ (x.rested.worked stamp pitch n).scan.heldMagnitudes = x.scan.heldMagnitudes
      ∧ x.records (x.rested.worked stamp pitch n) scanTallies [.objOverflow]
      ∧ x.changesOnly (x.rested.worked stamp pitch n) scanParts := by
  obtain ⟨link, waiting, presence, magnitudes⟩ := x.rested.worked_sameLine stamp pitch n
  have resting : x.changesOnly x.rested [.scan] := x.setScan_only _
  exact ⟨link, waiting, presence, magnitudes, (resting.records (by simp) (by simp) _ _).trans (x.rested.worked_records _ _ _),
    resting.then (x.rested.worked_only _ _ _) (by simp) (fun _ h => h)⟩

/-- At its end an exchange works its own scan, then the waiting ones. -/
theorem exchangeComplete_ends {s : State} {status : Byte} {magnitudes : Vector Byte 32} {stamp : Count} {ends : Time} {void : Bool}
    (out : s.inReset = false) (due : atOrBefore ends s.belt.timebase) (link : s.scan.link = .exchange stamp ends void) :
    exec (.exchangeComplete status magnitudes) s
      = .next ((s.ownScan stamp void status magnitudes).rested.worked stamp s.record.scanPitch s.scan.waiting) := by
  have record : (s.ownScan stamp void status magnitudes).rested.record = s.record :=
    s.ownScan_only stamp void status magnitudes .record (by simp)
  change execExchangeComplete status magnitudes s = _
  refine (s.act_out _ out).trans ?_
  simp only [link, due, if_true]
  rw [← record, ← State.processWaiting_eq]
  rfl

theorem Record.rawPresence_lane (r : Record) (mags : Vector Byte 32) (i : Fin 32) :
    (r.rawPresence mags).getLsbD i.val = true
      ↔ i.val < r.laneCount ∧ r.laneMask.getLsbD i.val = true ∧ r.presenceThreshold ≤ (mags[i]).toNat := by
  simp [Record.rawPresence, and_assoc]

theorem Record.readLine_lane (r : Record) (mags : Vector Byte 32) (i : Fin 32) (read : i.val < r.laneCount) :
    (r.readLine mags)[i] = mags[i] := by
  simp [Record.readLine, read]

/-- Settles O22: the own scan by the line's status, then the waiting scans from a resting link. -/
theorem exchangeEndsWithItsLine : Obligations.ExchangeEndsWithItsLine := by
  intro status magnitudes s stamp ends out due settled
  refine ⟨fun link => ?_, fun link => ?_⟩
  · refine ⟨_, exchangeComplete_ends out due link, ?_⟩
    obtain ⟨idle, waiting, presence, heldMags, records, only⟩ :=
      (s.ownScan stamp false status magnitudes).rested_worked stamp s.record.scanPitch s.scan.waiting
    by_cases ready : status = 90
    · have own : s.ownScan stamp false status magnitudes = (s.holdLine magnitudes).processScan stamp := by
        rw [ready]
        rfl
      obtain ⟨-, -, ownPresence, ownMags⟩ := (s.holdLine magnitudes).processScan_sameLine stamp
      rw [own] at idle waiting presence heldMags records only ⊢
      have recorded : s.records _ scanTallies [.objOverflow] :=
        ((s.setScan_only _).records (by simp) (by simp) _ _).trans (((s.holdLine magnitudes).processScan_records stamp).trans records)
      have listed : s.records _ (.scanSkip :: scanTallies) [.scanSkip, .objOverflow] := recorded.mono (by simp) (by simp)
      refine ⟨idle, waiting, ⟨fun _ => ?_, fun other => absurd ready other⟩, fun _ => ⟨fun i => ?_, ?_, ?_⟩,
        fun other => absurd ready other, listed.1, listed.2, ?_⟩
      · rw [presence, heldMags, ownPresence, ownMags]
        rfl
      · rw [presence, heldMags, ownPresence, ownMags]
        exact ⟨s.record.rawPresence_lane magnitudes i, s.record.readLine_lane magnitudes i⟩
      · exact recorded.1 .scanSkip (by simp)
      · exact recorded.2 .scanSkip (by simp)
      · exact ((s.setScan_only _).then ((s.holdLine magnitudes).processScan_only stamp) (by simp) (fun _ h => h)).trans only
    · have own : s.ownScan stamp false status magnitudes = s.skipScan.processScan stamp := by
        refine (if_neg Bool.false_ne_true).trans (if_neg fun is90 => ready (BitVec.eq_of_toNat_eq is90))
      obtain ⟨-, -, ownPresence, ownMags⟩ := s.skipScan.processScan_sameLine stamp
      rw [own] at idle waiting presence heldMags records only ⊢
      have processed := (s.skipScan.processScan_records stamp).trans records
      have recorded : s.records _ (.scanSkip :: scanTallies) [.scanSkip, .objOverflow] :=
        ((s.bump_raise_records .scanSkip .scanSkip).mono (by simp) (by simp)).trans (processed.mono (by simp) (by simp))
      refine ⟨idle, waiting, ⟨fun is90 => absurd is90 ready, fun _ => rfl⟩, fun is90 => absurd is90 ready,
        fun _ => ⟨presence.trans ownPresence, heldMags.trans ownMags, ?_, ?_⟩, recorded.1, recorded.2, ?_⟩
      · exact (s.bump_raise_counts .scanSkip .scanSkip).then processed (by simp)
      · rw [processed.2 .scanSkip (by simp)]
        exact State.raise_flagSet _ _
      · exact (s.skipScan_only.then (s.skipScan.processScan_only stamp) (by simp) (fun _ h => h)).trans only
  · obtain ⟨idle, waiting, presence, heldMags, records, only⟩ := s.rested_worked stamp s.record.scanPitch s.scan.waiting
    refine ⟨_, exchangeComplete_ends out due link, rfl, fun none => ?_, idle, waiting, presence, heldMags, records.1, records.2,
      only⟩
    rw [none]
    rfl

end Sys2Proof.Machine

/-! PROOF. Frames (section 3.1): each reader inverts its writer, field by field (R44, R47, R60, Table 3-1). -/

namespace Sys2Proof.Machine

/-! ## Codes -/

theorem PieceClass.ofCode?_eq_some {n : Nat} {c : PieceClass} : PieceClass.ofCode? n = some c ↔ n = c.code := by
  refine ⟨fun h => ?_, by rintro rfl; cases c <;> rfl⟩
  unfold PieceClass.ofCode? at h
  split at h <;> cases h <;> rfl

theorem Role.ofCode?_eq_some {n : Nat} {r : Role} : Role.ofCode? n = some r ↔ n = r.code := by
  refine ⟨fun h => ?_, by rintro rfl; cases r <;> rfl⟩
  unfold Role.ofCode? at h
  split at h <;> cases h <;> rfl

theorem HaltCause.ofCode?_eq_some {n : Nat} {c : HaltCause} : HaltCause.ofCode? n = some c ↔ n = c.code := by
  refine ⟨fun h => ?_, by rintro rfl; cases c <;> rfl⟩
  unfold HaltCause.ofCode? at h
  split at h <;> cases h <;> rfl

theorem MissReason.ofCode?_eq_some {n : Nat} {r : MissReason} : MissReason.ofCode? n = some r ↔ n = r.code := by
  refine ⟨fun h => ?_, by rintro rfl; cases r <;> rfl⟩
  unfold MissReason.ofCode? at h
  split at h <;> cases h <;> rfl

theorem FrameKind.ofCode?_eq_some {n : Nat} {k : FrameKind} : FrameKind.ofCode? n = some k ↔ n = k.code := by
  refine ⟨fun h => ?_, by rintro rfl; cases k <;> rfl⟩
  unfold FrameKind.ofCode? at h
  split at h <;> cases h <;> rfl

theorem SensorKind.ofCode_eq {n : Nat} {k : SensorKind} (code : n < 4) : SensorKind.ofCode n = k ↔ n = k.code := by
  obtain rfl | rfl | rfl | rfl : n = 0 ∨ n = 1 ∨ n = 2 ∨ n = 3 := by omega
  all_goals cases k <;> decide

theorem SensorKind.code_ofCode {n : Nat} (code : n < 4) : (SensorKind.ofCode n).code = n := ((SensorKind.ofCode_eq code).mp rfl).symm

theorem PieceClass.code_le (c : PieceClass) : c.code ≤ 5 := by cases c <;> decide

theorem Role.code_le (r : Role) : r.code ≤ 2 := by cases r <;> decide

theorem SensorKind.code_le (k : SensorKind) : k.code ≤ 3 := by cases k <;> decide

theorem MissReason.code_le (r : MissReason) : r.code ≤ 6 := by cases r <;> decide

theorem HaltCause.code_bounds (c : HaltCause) : 1 ≤ c.code ∧ c.code ≤ 3 := by cases c <;> decide

/-! ## Bytes -/

theorem byteOf_eq_iff {n : Nat} {b : Byte} (small : n < 256) : byteOf n = b ↔ n = b.toNat := by
  rw [← BitVec.toNat_inj, byteOf_toNat, Nat.mod_eq_of_lt small]

/-- A number in two bytes, the high one first. -/
theorem bytes2_eq_iff {n : Nat} {a b : Byte} (small : n < 65536) : bytes2 n = [a, b] ↔ a.toNat * 256 + b.toNat = n := by
  have high := a.isLt
  have low := b.isLt
  simp only [bytes2, List.cons.injEq, and_true, ← BitVec.toNat_inj, byteOf_toNat]
  omega

theorem boolToNat_injective : ∀ a b : Bool, a.toNat = b.toNat → a = b := by decide

theorem testBit_eq_iff {n i : Nat} {v : Bool} : n.testBit i = v ↔ n / 2 ^ i % 2 = v.toNat := by
  rw [← Nat.toNat_testBit]
  exact ⟨congrArg _, boolToNat_injective _ _⟩

/-! ## Readers (R60) -/

theorem readHalt_eq_some {a0 : Byte} {b : Body} :
    readHalt [a0] = some b ↔ ∃ on cause, b = .halt on cause ∧ a0.toNat = on.toNat * 128 + cause.code := by
  have byte := a0.isLt
  change (if a0.toNat / 4 % 32 = 0 then _ else _) = some b ↔ _
  constructor
  · intro read
    split at read
    next clear =>
      obtain ⟨cause, code, rfl⟩ := Option.map_eq_some_iff.mp read
      have code := HaltCause.ofCode?_eq_some.mp code
      refine ⟨_, cause, rfl, ?_⟩
      change a0.toNat = (a0.toNat.testBit 7).toNat * 128 + _
      change a0.toNat % 4 = _ at code
      rw [Nat.toNat_testBit]
      omega
    · cases read
  · rintro ⟨on, cause, rfl, bits⟩
    have code := cause.code_bounds
    have flag := on.toNat_le
    rw [if_pos (by omega)]
    refine Option.map_eq_some_iff.mpr ⟨cause, HaltCause.ofCode?_eq_some.mpr ?_, ?_⟩
    · change a0.toNat % 4 = _
      omega
    · have : a0.toNat.testBit 7 = on := testBit_eq_iff.mpr (by omega)
      exact congrArg (Body.halt · cause) this

theorem readOutcome_eq_some {a0 a1 a2 a3 a4 a5 a6 a7 a8 a9 : Byte} {o : OutcomeBody} :
    readOutcome [a0, a1, a2, a3, a4, a5, a6, a7, a8, a9] = some o
      ↔ o.inRange ∧ a0.toNat = o.anchorId ∧ a1 = o.anchorSerial ∧ a2.toNat = o.cls.code ∧ a3.toNat / 16 = o.curtain
        ∧ a4.toNat * 256 + a5.toNat = o.remaining.toNat ∧ a6.toNat * 256 + a7.toNat = o.length ∧ a8.toNat = o.laneFirst
        ∧ a9.toNat = o.laneLast := by
  have := a4.isLt
  have := a5.isLt
  have := a6.isLt
  have := a7.isLt
  unfold readOutcome
  constructor
  · intro read
    split at read
    · cases read
    next c code =>
      split at read
      next fits =>
        simp only [at8, at16, List.getD_cons_zero, List.getD_cons_succ] at fits code
        obtain ⟨anchor, curtain, length, lanes, lane⟩ := fits
        cases read
        refine ⟨⟨anchor, curtain, length, ?_, lanes, lane⟩, rfl, rfl, PieceClass.ofCode?_eq_some.mp code, rfl, ?_, rfl, rfl, rfl⟩
        · change a6.toNat * 256 + a7.toNat ≤ 65535
          omega
        · change _ = (BitVec.ofNat 16 (a4.toNat * 256 + a5.toNat)).toNat
          rw [BitVec.toNat_ofNat]
          omega
      · cases read
  · rintro ⟨⟨anchor, curtain, length, -, lanes, lane⟩, isAnchor, isSerial, isClass, isCurtain, isRemaining, isLength, isFirst, isLast⟩
    simp only [at8, at16, List.getD_cons_zero, List.getD_cons_succ]
    rw [PieceClass.ofCode?_eq_some.mpr isClass]
    dsimp only
    rw [if_pos (by omega), isAnchor, isSerial, isCurtain, isRemaining, isLength, isFirst, isLast, BitVec.ofNat_toNat,
      BitVec.setWidth_eq]

theorem readSight_eq_some {a0 a1 a2 a3 a4 a5 a6 a7 a8 a9 a10 a11 a12 a13 : Byte} {b : SightBody} :
    readSight [a0, a1, a2, a3, a4, a5, a6, a7, a8, a9, a10, a11, a12, a13] = some b
      ↔ b.inRange ∧ a0 = b.serial
        ∧ a1.toNat = b.kind.code * 64 + b.cut.toNat * 32 + b.cont.toNat * 16 + b.age / 256 ∧ a2.toNat = b.age % 256
        ∧ a3.toNat * 256 + a4.toNat = b.sensorLine ∧ a5.toNat = b.laneFirst ∧ a6.toNat = b.laneLast
        ∧ a7.toNat * 256 + a8.toNat = b.length ∧ a9.toNat * 256 + a10.toNat = b.area ∧ a11.toNat = b.hint.code
        ∧ a12.toNat = b.strength ∧ a13.toNat = b.peak := by
  have := a1.isLt
  have := a2.isLt
  have := a3.isLt
  have := a4.isLt
  have := a7.isLt
  have := a8.isLt
  have := a9.isLt
  have := a10.isLt
  have := a12.isLt
  have := a13.isLt
  unfold readSight
  simp only [at8, at16, List.getD_cons_zero, List.getD_cons_succ]
  constructor
  · intro read
    split at read
    · cases read
    next c code =>
      split at read
      next fits =>
        obtain ⟨lanes, lane, length, area⟩ := fits
        cases read
        refine ⟨⟨?_, ?_, ⟨lanes, lane⟩, length, ?_, area, ?_, ?_, ?_⟩, rfl, ?_, ?_, rfl, rfl, rfl, rfl, rfl,
          PieceClass.ofCode?_eq_some.mp code, rfl, rfl⟩
        all_goals dsimp only
        case refine_7 =>
          rw [SensorKind.code_ofCode (by omega), Nat.toNat_testBit, Nat.toNat_testBit]
          omega
        all_goals omega
      · cases read
  · rintro ⟨⟨age, -, ⟨lanes, lane⟩, length, -, area, -, -, -⟩, isSerial, isBits, isAge, isLine, isFirst, isLast, isLength, isArea,
      isHint, isStrength, isPeak⟩
    have kind := b.kind.code_le
    have cut := b.cut.toNat_le
    have cont := b.cont.toNat_le
    have isKind : SensorKind.ofCode (a1.toNat / 64) = b.kind := (SensorKind.ofCode_eq (by omega)).mpr (by omega)
    have isCut : a1.toNat.testBit 5 = b.cut := testBit_eq_iff.mpr (by omega)
    have isCont : a1.toNat.testBit 4 = b.cont := testBit_eq_iff.mpr (by omega)
    have highAge : a1.toNat % 16 = b.age / 256 := by omega
    have isAge : a1.toNat % 16 * 256 + a2.toNat = b.age := by rw [highAge, isAge, Nat.mul_comm, Nat.div_add_mod]
    rw [PieceClass.ofCode?_eq_some.mpr isHint]
    dsimp only
    rw [if_pos (by omega), isSerial, isKind, isCut, isCont, isAge, isLine, isFirst, isLast, isLength, isArea, isStrength, isPeak]

theorem readStatus_eq_some {a0 a1 a2 a3 a4 : Byte} {b : StatusBody} :
    readStatus [a0, a1, a2, a3, a4] = some b
      ↔ b.inRange
        ∧ a0.toNat = b.held.toNat * 128 + b.haltFlag.toNat * 64 + b.about.role.code * 16 + b.about.curtain * 4 + b.about.kind.code
        ∧ a1.toNat = b.about.laneBase ∧ a2.toNat = b.about.laneCount ∧ a3.toNat * 256 + a4.toNat = b.about.sensorLine := by
  have := a0.isLt
  have := a3.isLt
  have := a4.isLt
  unfold readStatus
  simp only [at8, at16, List.getD_cons_zero, List.getD_cons_succ]
  constructor
  · intro read
    split at read
    · cases read
    next role code =>
      split at read
      next fits =>
        obtain ⟨base, some_, count, lanes⟩ := fits
        cases read
        refine ⟨⟨?_, base, some_, count, lanes, ?_⟩, ?_, rfl, rfl, rfl⟩
        all_goals dsimp only
        case refine_3 =>
          have code := Role.ofCode?_eq_some.mp code
          rw [← code, SensorKind.code_ofCode (by omega), Nat.toNat_testBit, Nat.toNat_testBit]
          omega
        all_goals omega
      · cases read
  · rintro ⟨⟨curtain, base, some_, count, lanes, -⟩, isBits, isBase, isCount, isLine⟩
    have role := b.about.role.code_le
    have kind := b.about.kind.code_le
    have held := b.held.toNat_le
    have halt := b.haltFlag.toNat_le
    have isRole : Role.ofCode? (a0.toNat / 16 % 4) = some b.about.role := Role.ofCode?_eq_some.mpr (by omega)
    have isKind : SensorKind.ofCode (a0.toNat % 4) = b.about.kind := (SensorKind.ofCode_eq (by omega)).mpr (by omega)
    have isHeld : a0.toNat.testBit 7 = b.held := testBit_eq_iff.mpr (by omega)
    have isHalt : a0.toNat.testBit 6 = b.haltFlag := testBit_eq_iff.mpr (by omega)
    have isCurtain : a0.toNat / 4 % 4 = b.about.curtain := by omega
    rw [isRole]
    dsimp only
    rw [if_pos (by omega), isHeld, isHalt, isCurtain, isKind, isBase, isCount, isLine]

/-! ## Writers -/

theorem toNat_byteOf_of_lt {n : Nat} (small : n < 256) : (byteOf n).toNat = n := by rw [byteOf_toNat, Nat.mod_eq_of_lt small]

/-- The two bytes of a number, read back. -/
theorem bytes2_toNat {n : Nat} (small : n < 65536) : (byteOf (n / 256)).toNat * 256 + (byteOf n).toNat = n :=
  (bytes2_eq_iff small).mp rfl

theorem readOutcome_encodeOutcome {o : OutcomeBody} {reason : Nat} (small : reason < 16) (fits : o.inRange) :
    readOutcome (encodeOutcome reason o) = some o := by
  obtain ⟨anchor, curtain, -, length, lanes, lane⟩ := id fits
  have cls := o.cls.code_le
  refine readOutcome_eq_some.mpr ⟨fits, toNat_byteOf_of_lt (by omega), rfl, toNat_byteOf_of_lt (by omega), ?_, bytes2_toNat (BitVec.isLt _),
    bytes2_toNat (by omega), toNat_byteOf_of_lt (by omega), toNat_byteOf_of_lt (by omega)⟩
  rw [toNat_byteOf_of_lt (by omega)]
  omega

/-- What was read of an outcome payload puts its bytes back. -/
theorem encodeOutcome_of_readOutcome {a0 a1 a2 a3 a4 a5 a6 a7 a8 a9 : Byte} {o : OutcomeBody} {reason : Nat}
    (isReason : a3.toNat % 16 = reason) (read : readOutcome [a0, a1, a2, a3, a4, a5, a6, a7, a8, a9] = some o) :
    o.inRange ∧ encodeOutcome reason o = [a0, a1, a2, a3, a4, a5, a6, a7, a8, a9] := by
  obtain ⟨fits, isAnchor, rfl, isClass, isCurtain, isRemaining, isLength, isFirst, isLast⟩ := readOutcome_eq_some.mp read
  obtain ⟨anchor, curtain, -, length, lanes, lane⟩ := id fits
  have remaining := (bytes2_eq_iff o.remaining.isLt).mpr isRemaining
  have lengths := (bytes2_eq_iff (by omega)).mpr isLength
  have bits := a3.isLt
  have cls := o.cls.code_le
  refine ⟨fits, ?_⟩
  rw [encodeOutcome, remaining, lengths, (byteOf_eq_iff (by omega)).mpr isAnchor.symm, (byteOf_eq_iff (by omega)).mpr isClass.symm,
    (byteOf_eq_iff (by omega)).mpr isFirst.symm, (byteOf_eq_iff (by omega)).mpr isLast.symm,
    (byteOf_eq_iff (b := a3) (by omega)).mpr (by omega)]
  rfl

theorem readSight_encodeSight {b : SightBody} (fits : b.inRange) : readSight (encodeSight b) = some b := by
  obtain ⟨age, line, ⟨lanes, lane⟩, -, length, -, area, strength, peak⟩ := id fits
  have kind := b.kind.code_le
  have cut := b.cut.toNat_le
  have cont := b.cont.toNat_le
  have hint := b.hint.code_le
  exact readSight_eq_some.mpr ⟨fits, rfl, toNat_byteOf_of_lt (by omega), byteOf_toNat _, bytes2_toNat (by omega),
    toNat_byteOf_of_lt (by omega), toNat_byteOf_of_lt (by omega), bytes2_toNat (by omega), bytes2_toNat (by omega),
    toNat_byteOf_of_lt (by omega), toNat_byteOf_of_lt (by omega), toNat_byteOf_of_lt (by omega)⟩

theorem encodeSight_of_readSight {a0 a1 a2 a3 a4 a5 a6 a7 a8 a9 a10 a11 a12 a13 : Byte} {b : SightBody}
    (read : readSight [a0, a1, a2, a3, a4, a5, a6, a7, a8, a9, a10, a11, a12, a13] = some b) :
    b.inRange ∧ encodeSight b = [a0, a1, a2, a3, a4, a5, a6, a7, a8, a9, a10, a11, a12, a13] := by
  obtain ⟨fits, rfl, isBits, isAge, isLine, isFirst, isLast, isLength, isArea, isHint, isStrength, isPeak⟩ :=
    readSight_eq_some.mp read
  obtain ⟨age, line, ⟨lanes, lane⟩, -, length, -, area, strength, peak⟩ := id fits
  have hint := b.hint.code_le
  have bits := a1.isLt
  have low : byteOf b.age = a2 := BitVec.eq_of_toNat_eq ((byteOf_toNat _).trans isAge.symm)
  refine ⟨fits, ?_⟩
  rw [encodeSight, (bytes2_eq_iff (by omega)).mpr isLine, (bytes2_eq_iff (by omega)).mpr isLength,
    (bytes2_eq_iff (by omega)).mpr isArea, (byteOf_eq_iff (by omega)).mpr isBits.symm, low,
    (byteOf_eq_iff (by omega)).mpr isFirst.symm, (byteOf_eq_iff (by omega)).mpr isLast.symm,
    (byteOf_eq_iff (by omega)).mpr isHint.symm, (byteOf_eq_iff (by omega)).mpr isStrength.symm,
    (byteOf_eq_iff (by omega)).mpr isPeak.symm]
  rfl

theorem readStatus_encodeStatus {b : StatusBody} (fits : b.inRange) : readStatus (encodeStatus b) = some b := by
  obtain ⟨curtain, base, -, count, lanes, line⟩ := id fits
  have role := b.about.role.code_le
  have kind := b.about.kind.code_le
  have held := b.held.toNat_le
  have halt := b.haltFlag.toNat_le
  exact readStatus_eq_some.mpr ⟨fits, toNat_byteOf_of_lt (by omega), toNat_byteOf_of_lt (by omega), toNat_byteOf_of_lt (by omega),
    bytes2_toNat (by omega)⟩

theorem encodeStatus_of_readStatus {a0 a1 a2 a3 a4 : Byte} {b : StatusBody} (read : readStatus [a0, a1, a2, a3, a4] = some b) :
    b.inRange ∧ encodeStatus b = [a0, a1, a2, a3, a4] := by
  obtain ⟨fits, isBits, isBase, isCount, isLine⟩ := readStatus_eq_some.mp read
  obtain ⟨curtain, base, -, count, lanes, line⟩ := id fits
  have bits := a0.isLt
  refine ⟨fits, ?_⟩
  rw [encodeStatus, (bytes2_eq_iff (by omega)).mpr isLine, (byteOf_eq_iff (by omega)).mpr isBits.symm,
    (byteOf_eq_iff (by omega)).mpr isBase.symm, (byteOf_eq_iff (by omega)).mpr isCount.symm]
  rfl

/-! ## Payloads -/

theorem Body.encode_length (b : Body) : b.encode.length = b.kind.payloadBytes := by cases b <;> rfl

/-- A payload of its kind's length is read whole (R59). -/
theorem payloadRead_of_length {f : WireFrame} {k : FrameKind} (whole : f.payload.length = k.payloadBytes) :
    WireFrame.payloadRead f k = f.payload := by
  refine List.ext_getElem (by simp [WireFrame.payloadRead, whole]) fun i _ inside => ?_
  simp [WireFrame.payloadRead, inside]

theorem readBody_encode {b : Body} (fits : b.inRange) : readBody b.kind b.encode = some b := by
  cases b with
  | halt on cause =>
    have code := cause.code_bounds
    have flag := on.toNat_le
    exact readHalt_eq_some.mpr ⟨on, cause, rfl, toNat_byteOf_of_lt (by omega)⟩
  | fired o =>
    have curtain : o.curtain ≤ 3 := fits.2.1
    have noReason : at8 (encodeOutcome 0 o) 3 % 16 = 0 := by
      change (byteOf (o.curtain * 16 + 0)).toNat % 16 = 0
      rw [toNat_byteOf_of_lt (by omega)]
      omega
    exact (if_pos noReason).trans (congrArg _ (readOutcome_encodeOutcome (by omega) fits))
  | missed reason o =>
    have curtain : o.curtain ≤ 3 := fits.2.1
    have code := reason.code_le
    have isReason : at8 (encodeOutcome reason.code o) 3 % 16 = reason.code := by
      change (byteOf (o.curtain * 16 + reason.code)).toNat % 16 = _
      rw [toNat_byteOf_of_lt (by omega)]
      omega
    simp only [readBody, Body.kind, Body.encode, isReason, MissReason.ofCode?_eq_some.mpr rfl,
      readOutcome_encodeOutcome (reason := reason.code) (by omega) fits, Option.map_some]
  | claim o =>
    have curtain : o.curtain ≤ 3 := fits.2.1
    have noReason : at8 (encodeOutcome 0 o) 3 % 16 = 0 := by
      change (byteOf (o.curtain * 16 + 0)).toNat % 16 = 0
      rw [toNat_byteOf_of_lt (by omega)]
      omega
    exact (if_pos noReason).trans (congrArg _ (readOutcome_encodeOutcome (by omega) fits))
  | sight b => exact congrArg (Option.map Body.sight) (readSight_encodeSight fits)
  | status b => exact congrArg (Option.map Body.status) (readStatus_encodeStatus fits)

/-- What is read of a payload is of its kind, in range, and puts the payload's bytes back. -/
theorem encode_of_readBody {f : WireFrame} {k : FrameKind} {b : Body} (read : readBody k (WireFrame.payloadRead f k) = some b) :
    b.kind = k ∧ b.inRange ∧ b.encode = WireFrame.payloadRead f k := by
  cases k with
  | halt =>
    obtain ⟨on, cause, rfl, bits⟩ := readHalt_eq_some.mp read
    have code := cause.code_bounds
    have flag := on.toNat_le
    exact ⟨rfl, trivial, congrArg (fun x => [x]) ((byteOf_eq_iff (by omega)).mpr bits.symm)⟩
  | fired =>
    simp only [readBody] at read
    split at read
    next noReason =>
      obtain ⟨o, isOutcome, rfl⟩ := Option.map_eq_some_iff.mp read
      exact ⟨rfl, encodeOutcome_of_readOutcome noReason isOutcome⟩
    · cases read
  | missed =>
    simp only [readBody] at read
    split at read
    next reason isReason =>
      obtain ⟨o, isOutcome, rfl⟩ := Option.map_eq_some_iff.mp read
      exact ⟨rfl, encodeOutcome_of_readOutcome (MissReason.ofCode?_eq_some.mp isReason) isOutcome⟩
    · cases read
  | claim =>
    simp only [readBody] at read
    split at read
    next noReason =>
      obtain ⟨o, isOutcome, rfl⟩ := Option.map_eq_some_iff.mp read
      exact ⟨rfl, encodeOutcome_of_readOutcome noReason isOutcome⟩
    · cases read
  | sight =>
    obtain ⟨b, isSight, rfl⟩ := Option.map_eq_some_iff.mp read
    exact ⟨rfl, encodeSight_of_readSight isSight⟩
  | status =>
    obtain ⟨b, isStatus, rfl⟩ := Option.map_eq_some_iff.mp read
    exact ⟨rfl, encodeStatus_of_readStatus isStatus⟩

/-! ## Acceptance (R60) -/

/-- A frame is accepted exactly when its kind is listed, its sender a station, its CRC right, its end field clean, and its payload
read. -/
theorem acceptFrame_eq_some {f : WireFrame} {b : Body} :
    acceptFrame f = some b ↔ ∃ k : FrameKind, f.kind.toNat = k.code ∧ f.sender.toNat ≤ 23
      ∧ f.crc = WireFrame.goodCrc f (WireFrame.payloadRead f k) ∧ f.endField = 255
      ∧ readBody k (WireFrame.payloadRead f k) = some b := by
  unfold acceptFrame
  constructor
  · intro accepted
    split at accepted
    · cases accepted
    next k kind =>
      split at accepted
      · cases accepted
      next station =>
        split at accepted
        · cases accepted
        next crc =>
          split at accepted
          · cases accepted
          next clean =>
            exact ⟨k, FrameKind.ofCode?_eq_some.mp kind, by omega, not_not.mp crc, not_not.mp clean, accepted⟩
  · rintro ⟨k, kind, station, crc, clean, read⟩
    rw [FrameKind.ofCode?_eq_some.mpr kind]
    dsimp only
    rw [if_neg (by omega), if_neg (not_not.mpr crc), if_neg (not_not.mpr clean), read]

theorem acceptFrame_frameOf {sender : BitVec 5} {sequence : Byte} {b : Body} (station : sender.toNat ≤ 23) (fits : b.inRange) :
    acceptFrame (frameOf sender sequence b) = some b := by
  have whole : WireFrame.payloadRead (frameOf sender sequence b) b.kind = b.encode := payloadRead_of_length b.encode_length
  refine acceptFrame_eq_some.mpr ⟨b.kind, ?_, station, ?_, rfl, ?_⟩
  · change (BitVec.ofNat 3 b.kind.code).toNat = b.kind.code
    cases b.kind <;> rfl
  · rw [whole]
    rfl
  · rw [whole, readBody_encode fits]

/-- Settles O16: what is sent is in order for every test of acceptance, and each reader inverts its writer. -/
theorem sentFramesReadBackAndOthersMustBeSound : Obligations.SentFramesReadBackAndOthersMustBeSound := by
  refine ⟨fun sender sequence b => acceptFrame_frameOf, fun f b accepted => ?_⟩
  obtain ⟨k, kind, station, crc, clean, read⟩ := acceptFrame_eq_some.mp accepted
  obtain ⟨rfl, fits, encoded⟩ := encode_of_readBody read
  exact ⟨kind, station, clean, crc, fits, encoded⟩

end Sys2Proof.Machine

/-! PROOF. The link transmitter (R45 to R57): what an idle line begins, what an offer and a due STATUS lead to, and the ends of an
attempt. -/

namespace Sys2Proof.Machine

/-! ## What an attempt begun sends (R49, R50, R53) -/

theorem State.bumpBy_zero (s : State) (x : Tally) : s.bumpBy x 0 = s := by
  simp [State.bumpBy, addTally_zero]

/-- A station that may begin sends the head of the first queue that holds an entry. -/
theorem State.begin_of_frame {s : State} (idle : s.line.status = .idle) (operating : s.mode ≠ .setup) (loud : s.tx.mute = false)
    (frame : s.hasFrame = true) : s.begin = s.latch.sendHead :=
  if_pos ((s.mayBegin_iff).mpr ⟨idle, operating, loud, frame⟩)

theorem State.begin_of_empty {s : State} (urgent : s.tx.urgent = []) (sightings : s.tx.sightings = []) (beacon : s.tx.beacon = none) :
    s.begin = s := by
  simp [State.begin, State.mayBegin, State.hasFrame, urgent, sightings, beacon]

theorem State.sendHead_of_urgent {s : State} {e : UrgentEntry} {rest : List UrgentEntry} (urgent : s.tx.urgent = e :: rest) :
    s.sendHead = s.send .urgent (e.content.body s.line.cSof) := by
  simp only [State.sendHead, urgent]

theorem State.sendHead_of_lesser {s : State} (urgent : s.tx.urgent = []) : s.sendHead = s.dropStale.sendLesser := by
  simp only [State.sendHead, urgent]

theorem Sighting.stale_iff (x : Sighting) (cSof : Count) : x.stale cSof = true ↔ 4095 < (cSof - x.lead).toNat :=
  decide_eq_true_iff

/-- The stale sightings before the first that is not leave the queue, each with STALE (R50). -/
theorem State.dropStale_eq {s : State} {stale rest : List SightingEntry} (sightings : s.tx.sightings = stale ++ rest)
    (all : ∀ e ∈ stale, e.sighting.stale s.line.cSof = true) (fresh : ∀ e, rest.head? = some e → e.sighting.stale s.line.cSof = false) :
    s.dropStale = { s with tx := { s.tx with sightings := rest } }.bumpBy .stale stale.length := by
  have taken : rest.takeWhile (fun e => e.sighting.stale s.line.cSof) = [] := by
    cases rest with
    | nil => rfl
    | cons e rest => simp [fresh e rfl]
  have dropped : rest.dropWhile (fun e => e.sighting.stale s.line.cSof) = rest := by
    cases rest with
    | nil => rfl
    | cons e rest => simp [fresh e rfl]
  simp only [State.dropStale, sightings]
  rw [List.dropWhile_append_of_pos all, List.takeWhile_append_of_pos all, taken, dropped, List.append_nil]

/-- What the start edge of the first sighting that is not stale leaves (R50, R53). -/
theorem State.sendHead_of_sighting {s : State} {e : SightingEntry} {stale rest : List SightingEntry} (urgent : s.tx.urgent = [])
    (sightings : s.tx.sightings = stale ++ e :: rest) (all : ∀ e ∈ stale, e.sighting.stale s.line.cSof = true)
    (fresh : e.sighting.stale s.line.cSof = false) :
    s.sendHead = ({ s with tx := { s.tx with sightings := e :: rest } }.bumpBy .stale stale.length).send .sighting
      (e.sighting.body s.line.cSof) := by
  rw [State.sendHead_of_lesser urgent, State.dropStale_eq sightings all (by simpa using fresh)]
  rfl

theorem State.sendHead_of_beacon {s : State} {n : Nat} (urgent : s.tx.urgent = [])
    (all : ∀ e ∈ s.tx.sightings, e.sighting.stale s.line.cSof = true) (beacon : s.tx.beacon = some n) :
    s.sendHead = ({ s with tx := { s.tx with sightings := [] } }.bumpBy .stale s.tx.sightings.length).send .beacon s.statusBody := by
  rw [State.sendHead_of_lesser urgent, State.dropStale_eq (List.append_nil _).symm all (by simp)]
  simp only [State.sendLesser, State.bumpBy, beacon, Option.isSome_some, if_true]
  rfl

theorem State.sendHead_of_stale {s : State} (urgent : s.tx.urgent = [])
    (all : ∀ e ∈ s.tx.sightings, e.sighting.stale s.line.cSof = true) (beacon : s.tx.beacon = none) :
    s.sendHead = { s with tx := { s.tx with sightings := [] } }.bumpBy .stale s.tx.sightings.length := by
  rw [State.sendHead_of_lesser urgent, State.dropStale_eq (List.append_nil _).symm all (by simp)]
  simp only [State.sendLesser, State.bumpBy, beacon, Option.isSome_none, Bool.false_eq_true, if_false]

/-! ## LINE_IDLE (R45, R53) -/

/-- The line falls idle. -/
def State.lineIdled (s : State) : State := { s with line := { s.line with status := .idle } }

theorem lineIdle_begins {s : State} (out : s.inReset = false) (free : s.line.status = .waiting ∨ s.line.status = .idle) :
    exec .lineIdle s = .next s.lineIdled.begin := by
  change execLineIdle s false = _
  refine (s.act_out _ out).trans ?_
  rcases free with status | status <;> simp only [status, Bool.false_eq_true, if_false] <;> rfl

theorem lineIdle_latches {s : State} (out : s.inReset = false) (free : s.line.status = .waiting ∨ s.line.status = .idle) :
    exec (.lineIdle true) s = .next s.latch := by
  change execLineIdle s true = _
  refine (s.act_out _ out).trans ?_
  rcases free with status | status <;> simp only [status, if_true]

theorem State.lineIdled_of_idle {s : State} (idle : s.line.status = .idle) : s.lineIdled = s := by
  have : ({ s.line with status := .idle } : LineLink) = s.line := by rw [← idle]
  rw [State.lineIdled, this]

theorem lineIdle_of_idle {s : State} (out : s.inReset = false) (idle : s.line.status = .idle) : exec .lineIdle s = .next s.begin :=
  (lineIdle_begins out (.inr idle)).trans (by rw [State.lineIdled_of_idle idle])

theorem State.lineIdled_begin_only (s : State) : s.changesOnly s.lineIdled.begin [.tx, .line, .tallies] :=
  State.changesOnly.then (s.setLine_only _) (State.begin_only _) (by simp) (by simp)

/-- From one state to another that holds its tallies and flags, a tally is counted. -/
theorem State.stale_counted (s t : State) (n : Nat) (same : t.tallies = s.tallies) :
    s.counts (t.bumpBy .stale n) .stale n ∧ s.talliesOnly (t.bumpBy .stale n) [.stale] := by
  have tally (x : Tally) : t.tally x = s.tally x := congrArg (·[x.index]) same
  refine ⟨?_, fun x other => ?_⟩
  · have := t.bumpBy_counts .stale n
    rwa [State.counts, tally] at this
  · rw [(t.bumpBy_records .stale n []).1 x other, tally]

/-- Settles O27: the first queue with an entry decides what the latched start edge sends. -/
theorem idleLineBeginsTheNextFrame : Obligations.IdleLineBeginsTheNextFrame := by
  intro s out free sent
  refine ⟨lineIdle_latches out free, fun nothing => ?_, fun operating loud => ⟨fun e rest urgent => ?_, fun stale urgent all => ?_⟩⟩
  · rw [lineIdle_begins out free]
    rcases nothing with setup | mute | ⟨urgent, sightings, beacon⟩
    · exact congrArg _ (State.begin_of_silent (s := s.lineIdled) (.inl setup))
    · exact congrArg _ (State.begin_of_silent (s := s.lineIdled) (.inr mute))
    · exact congrArg _ (State.begin_of_empty (s := s.lineIdled) urgent sightings beacon)
  · rw [lineIdle_begins out free, State.begin_of_frame (s := s.lineIdled) rfl operating loud (by simp [State.hasFrame, State.lineIdled, urgent]),
      State.sendHead_of_urgent (s := s.lineIdled.latch) urgent]
    rfl
  · have allStale : ∀ e ∈ stale, e.sighting.stale s.lineIdled.latch.line.cSof = true := fun e he =>
      (Sighting.stale_iff _ _).mpr (all e he)
    refine ⟨fun e rest sightings fresh => ?_, fun n sightings beacon => ?_⟩
    · have begun := State.begin_of_frame (s := s.lineIdled) rfl operating loud
        (by simp [State.hasFrame, State.lineIdled, sightings])
      have freshSof : e.sighting.stale s.lineIdled.latch.line.cSof = false := by
        rw [Bool.eq_false_iff]
        exact fun old => absurd ((Sighting.stale_iff _ _).mp old) (Nat.not_lt.mpr fresh)
      have sends := State.sendHead_of_sighting (s := s.lineIdled.latch) urgent sightings allStale freshSof
      have counted := s.stale_counted { s.lineIdled.latch with tx := { s.lineIdled.latch.tx with sightings := e :: rest } }
        stale.length rfl
      refine ⟨_, lineIdle_begins out free, ?_, ?_, ?_, ?_, s.lineIdled_begin_only⟩ <;> rw [begun, sends]
      · rfl
      · rfl
      · exact counted.1
      · exact counted.2
    · intro status
      have begun := State.begin_of_frame (s := s.lineIdled) rfl operating loud (by simp [State.hasFrame, State.lineIdled, beacon])
      have sends := State.sendHead_of_beacon (s := s.lineIdled.latch) urgent (by rw [← sightings] at allStale; exact allStale) beacon
      have counted := s.stale_counted { s.lineIdled.latch with tx := { s.lineIdled.latch.tx with sightings := [] } }
        s.tx.sightings.length rfl
      refine ⟨_, lineIdle_begins out free, ?_, ?_, ?_, ?_, s.lineIdled_begin_only⟩ <;> rw [begun, sends]
      · rfl
      · rfl
      · exact sightings ▸ counted.1
      · exact counted.2

/-! ## Fields of the start edge (R49, R50) -/

theorem remainingAt_toInt (cSof aLead : Count) :
    (remainingAt cSof aLead).toInt = max (-32768) (min 32767 (distance cSof aLead)) := by
  rw [remainingAt, BitVec.toInt_ofInt, clampInt]
  exact Int.bmod_eq_of_le (by omega) (by omega)

/-- Settles O28: the bodies field by field, and a queue of stale sightings alone is dropped at the start edge. -/
theorem startEdgeFillsFieldsAndDropsStale : Obligations.StartEdgeFillsFieldsAndDropsStale := by
  refine ⟨fun cSof x r reason => ⟨⟨_, rfl, rfl, rfl, rfl, rfl, rfl, rfl, rfl, rfl, rfl, rfl, rfl, rfl, rfl⟩, fun _ _ => rfl,
    ⟨_, rfl, rfl, rfl, remainingAt_toInt cSof r.aLead, rfl, rfl, rfl, rfl, rfl, rfl, rfl⟩⟩,
    fun s out free operating loud urgent some_ all beacon => ?_⟩
  have begun := State.begin_of_frame (s := s.lineIdled) rfl operating loud (by simp [State.hasFrame, State.lineIdled, some_])
  have sends := State.sendHead_of_stale (s := s.lineIdled.latch) urgent (fun e he => (Sighting.stale_iff _ _).mpr (all e he)) beacon
  have counted := s.stale_counted { s.lineIdled.latch with tx := { s.lineIdled.latch.tx with sightings := [] } }
    s.tx.sightings.length rfl
  refine ⟨_, lineIdle_begins out free, ?_, ?_, ?_, ?_, s.lineIdled_begin_only⟩ <;> rw [begun, sends]
  · rfl
  · rfl
  · exact counted.1
  · exact counted.2

/-! ## Offers (R39, R51, R53) -/

/-- On an idle line a single urgent entry is sent at once. -/
theorem State.begin_of_first_urgent {s : State} {e : UrgentEntry} (idle : s.line.status = .idle) (operating : s.mode ≠ .setup)
    (loud : s.tx.mute = false) (urgent : s.tx.urgent = [e]) :
    s.begin = s.latch.send .urgent (e.content.body s.belt.count) := by
  rw [State.begin_of_frame idle operating loud (by simp [State.hasFrame, urgent]),
    State.sendHead_of_urgent (s := s.latch) urgent]
  rfl

/-- On an idle line a single sighting within the age limit is sent at once. -/
theorem State.begin_of_first_sighting {s : State} {e : SightingEntry} (idle : s.line.status = .idle) (operating : s.mode ≠ .setup)
    (loud : s.tx.mute = false) (urgent : s.tx.urgent = []) (sightings : s.tx.sightings = [e])
    (fresh : (s.belt.count - e.sighting.lead).toNat ≤ 4095) :
    s.begin = s.latch.send .sighting (e.sighting.body s.belt.count) := by
  have freshSof : e.sighting.stale s.latch.line.cSof = false := by
    rw [Bool.eq_false_iff]
    exact fun old => absurd ((Sighting.stale_iff _ _).mp old) (Nat.not_lt.mpr fresh)
  rw [State.begin_of_frame idle operating loud (by simp [State.hasFrame, sightings]),
    State.sendHead_of_sighting (s := s.latch) (stale := []) (rest := []) urgent sightings (by simp) freshSof]
  have same : ({ s.latch.tx with sightings := [e] } : Transmitter) = s.latch.tx := by rw [← sightings]; rfl
  rw [same, List.length_nil, State.bumpBy_zero]
  rfl

/-- On an idle line the STATUS alone is sent at once. -/
theorem State.begin_of_beacon {s : State} {n : Nat} (idle : s.line.status = .idle) (operating : s.mode ≠ .setup)
    (loud : s.tx.mute = false) (urgent : s.tx.urgent = []) (sightings : s.tx.sightings = []) (beacon : s.tx.beacon = some n) :
    s.begin = s.latch.send .beacon s.statusBody := by
  rw [State.begin_of_frame idle operating loud (by simp [State.hasFrame, beacon]),
    State.sendHead_of_beacon (s := s.latch) urgent (by rw [show s.latch.tx.sightings = [] from sightings]; simp) beacon]
  have same : ({ s.latch.tx with sightings := [] } : Transmitter) = s.latch.tx := by rw [← sightings]; rfl
  rw [same, show s.latch.tx.sightings.length = 0 from congrArg List.length sightings, State.bumpBy_zero]
  rfl

/-- Settles O32: an offer joins its queue or is counted, and is followed by what the line allows to begin. -/
theorem offersFollowTheTransmitterState : Obligations.OffersFollowTheTransmitterState := by
  intro s u x withUrgent withSighting queued queuedSighting latched begun
  have urgentQueued (operating : s.mode ≠ .setup) (loud : s.tx.mute = false) : s.enqueueUrgent u = queued := by
    by_cases room : s.tx.urgent.length < 8
    · exact (State.enqueueUrgent_of_room operating loud room).trans (if_pos room).symm
    · exact (State.enqueueUrgent_of_full operating loud (Nat.not_lt.mp room)).trans (if_neg room).symm
  have sightingQueued (operating : s.mode ≠ .setup) (loud : s.tx.mute = false) : s.enqueueSighting x = queuedSighting := by
    by_cases room : s.tx.sightings.length < 16
    · exact (State.enqueueSighting_of_room operating loud room).trans (if_pos room).symm
    · exact (State.enqueueSighting_of_full operating loud (Nat.not_lt.mp room)).trans (if_neg room).symm
  refine ⟨fun setup => ⟨State.offer_of_setup setup u, ?_⟩, fun operating mute => ?_, fun operating loud busy => ?_,
    fun operating loud idle => ⟨fun out => ?_, fun urgent => ⟨?_, fun sightings fresh => ?_⟩⟩⟩
  · rw [State.offerSighting, State.enqueueSighting_of_setup setup, State.begin_of_setup setup]
  · rw [State.offer, State.enqueueUrgent_of_mute operating mute, State.offerSighting,
      State.enqueueSighting_of_mute operating mute, State.begin_of_silent (s := s.bump .muteDrop) (.inr mute)]
    exact ⟨rfl, rfl⟩
  · have urgentLine : (s.enqueueUrgent u).line = s.line := s.enqueueUrgent_only u .line (by simp)
    have sightingLine : (s.enqueueSighting x).line = s.line := s.enqueueSighting_only x .line (by simp)
    rw [State.offer, State.offerSighting, State.begin_of_busy _ (by rwa [urgentLine]), State.begin_of_busy _ (by rwa [sightingLine])]
    exact ⟨urgentQueued operating loud, sightingQueued operating loud⟩
  · rw [← urgentQueued operating loud, ← sightingQueued operating loud]
    have urgentSame := s.enqueueUrgent_only u
    have sightingSame := s.enqueueSighting_only x
    refine ⟨lineIdle_of_idle ?_ ?_, lineIdle_of_idle ?_ ?_⟩
    · exact (urgentSame .inReset (by simp)).trans out
    · exact (congrArg LineLink.status (urgentSame .line (by simp))).trans idle
    · exact (sightingSame .inReset (by simp)).trans out
    · exact (congrArg LineLink.status (sightingSame .line (by simp))).trans idle
  · exact (congrArg State.begin (State.enqueueUrgent_of_room operating loud (by simp [urgent]))).trans
      (State.begin_of_first_urgent (s := { s with tx := withUrgent }) (e := ⟨u, 0⟩) idle operating loud (by simp [withUrgent, urgent]))
  · exact (congrArg State.begin (State.enqueueSighting_of_room operating loud (by simp [sightings]))).trans
      (State.begin_of_first_sighting (s := { s with tx := withSighting }) (e := ⟨x, 0⟩) idle operating loud urgent
        (by simp [withSighting, sightings]) fresh)

/-! ## A STATUS due (R52) -/

theorem beaconDue_places {s : State} {due : Time} (out : s.inReset = false) (falls : s.tx.beaconDue = some due)
    (fallen : atOrBefore due s.belt.timebase) :
    exec .beaconDue s
      = .next ({ s with tx := { s.tx with beaconDue := some (due + BitVec.ofNat 32 s.record.beaconInterval) } }.placeStatus).begin := by
  change execBeaconDue s = _
  refine (s.act_out _ out).trans ?_
  simp only [falls, fallen, if_true]

theorem State.placeStatus_records (s : State) : s.records s.placeStatus [.muteDrop] [] := by
  unfold State.placeStatus
  exact .ite _ (.refl _ _ _) (.ite _ (s.bump_records _ _) ⟨fun _ _ => rfl, fun _ _ => rfl⟩)

/-- A begun attempt leaves slot and due time of the STATUS. -/
theorem State.begin_beacon (s : State) : s.begin.tx.beacon = s.tx.beacon ∧ s.begin.tx.beaconDue = s.tx.beaconDue := by
  rcases s.begin_tx with same | ⟨-, -, a, sightings, -, same, -⟩ <;> rw [same] <;> exact ⟨rfl, rfl⟩

theorem State.placeStatus_beaconDue (s : State) : s.placeStatus.tx.beaconDue = s.tx.beaconDue := by
  rcases s.placeStatus_tx with same | ⟨-, same⟩ <;> rw [same]

/-- Settles O31: in MUTE the STATUS is counted, else it is placed and an idle line begins it. -/
theorem beaconFallsDue : Obligations.BeaconFallsDue := by
  intro s due out operating falls fallen next kept placed
  let timed : State := { s with tx := { s.tx with beaconDue := some next } }
  have timedOnly : s.changesOnly timed [.tx] := s.setTx_only _
  have records : s.records timed.placeStatus.begin [.muteDrop, .stale] [] :=
    ((timedOnly.records (by simp) (by simp) _ _).trans (timed.placeStatus_records.mono (by simp) (by simp))).trans
      (timed.placeStatus.begin_records.mono (by simp) (by simp))
  have only : s.changesOnly timed.placeStatus.begin [.tx, .line, .tallies] :=
    (timedOnly.then timed.placeStatus_only (by simp) (by simp)).trans (timed.placeStatus.begin_only.mono (by simp))
  have placing (loud : s.tx.mute = false) : timed.placeStatus = placed := State.placeStatus_of_loud (s := timed) operating loud
  refine ⟨_, beaconDue_places out falls fallen, ?_, records.1, only, fun mute => ?_, fun loud => ⟨fun busy => ?_, fun idle => ?_⟩⟩
  · exact timed.placeStatus.begin_beacon.2.trans timed.placeStatus_beaconDue
  · have dropped : timed.placeStatus = timed.bump .muteDrop := State.placeStatus_of_mute (s := timed) operating mute
    change (timed.placeStatus.begin).tx = _ ∧ _
    rw [show ({ s with tx := { s.tx with beaconDue := some (due + BitVec.ofNat 32 s.record.beaconInterval) } } : State) = timed from rfl,
      dropped, State.begin_of_silent (s := timed.bump .muteDrop) (.inr mute)]
    exact ⟨rfl, rfl, s.bump_counts _, (s.bump_records _ []).1⟩
  · exact (congrArg State.begin (placing loud)).trans (State.begin_of_busy placed busy)
  · have begun : timed.placeStatus.begin = placed.begin := congrArg State.begin (placing loud)
    refine ⟨(lineIdle_of_idle (s := placed) out idle).trans (congrArg _ begun.symm), ?_, ?_⟩
    · exact (congrArg (·.tx.beacon) begun).trans placed.begin_beacon.1
    · intro urgent sightings status sent
      exact begun.trans (State.begin_of_beacon (s := placed) (n := 0) idle operating loud urgent sightings rfl)

end Sys2Proof.Machine

/-! PROOF. Start edges and the ends of an attempt (R45, R48, R54 to R57): lost arbitration, completion, and the bit error that charges
an entry and may bring MUTE. -/

namespace Sys2Proof.Machine

/-! ## Completion (R54) -/

theorem Transmitter.dropEntry_queues (x : Transmitter) (a : Attempt) :
    (a.fate ≠ .gone → (x.dropEntry a).urgent = (if a.source = .urgent then x.urgent.tail else x.urgent)
        ∧ (x.dropEntry a).sightings = (if a.source = .sighting then x.sightings.tail else x.sightings)
        ∧ (x.dropEntry a).beacon = (if a.source = .beacon then none else x.beacon))
      ∧ (a.fate = .gone → x.dropEntry a = x) := by
  unfold Transmitter.dropEntry
  refine ⟨fun stays => ?_, fun gone => by simp only [gone]⟩
  cases fate : a.fate with
  | gone => exact absurd fate stays
  | present => cases a.source <;> exact ⟨by simp, by simp, by simp⟩
  | replaced => cases a.source <;> exact ⟨by simp, by simp, by simp⟩

/-- Settles O29: each command by the line's status or the attempt that stands. -/
theorem startEdgesAndAttemptEnds : Obligations.StartEdgesAndAttemptEnds := by
  intro s out
  refine ⟨fun idle => ?_, fun busy => ?_, fun notWaiting notIdle startEdge => ?_, fun a sending => ⟨fun bit recessive => ?_, ?_⟩⟩
  · change execStartEdgeLatch s = _
    refine (s.act_out _ out).trans ?_
    simp only [idle]
    rfl
  · change execStartEdgeLatch s = _
    refine (s.act_out _ out).trans ?_
    split
    iterate 3 rfl
    next idle => exact absurd idle busy
  · change execLineIdle s startEdge = _
    refine (s.act_out _ out).trans ?_
    split
    iterate 2 rfl
    next waiting => exact absurd waiting notWaiting
    next idle => exact absurd idle notIdle
  · change execArbitrationLost bit s = _
    refine (s.act_out _ out).trans ?_
    simp only [sending, recessive, if_true]
  · have completes : exec .attemptComplete s = .next
        { s with
          tx := { s.tx.dropEntry a with attempt := none, sequence := s.tx.sequence + 1, consecutive := 0 }
          line := { s.line with status := .receiving true } } := by
      change execAttemptComplete s = _
      refine (s.act_out _ out).trans ?_
      simp only [sending]
    obtain ⟨dropped, kept⟩ := s.tx.dropEntry_queues a
    obtain ⟨urgent, sightings, beacon, same, -⟩ := s.tx.dropEntry_eq a
    refine ⟨_, completes, rfl, rfl, rfl, rfl, dropped, fun gone => ?_, ?_, ?_, ?_⟩
    · rw [kept gone]
      exact ⟨rfl, rfl, rfl⟩
    · change (s.tx.dropEntry a).mute = _
      rw [same]
    · change (s.tx.dropEntry a).beaconDue = _
      rw [same]
    · exact s.completeAttempt_only _ _

/-! ## Bit errors (R56, R57) -/

theorem State.chargeEntry_of_aside {s : State} {a : Attempt} (fate : a.fate ≠ .present) : s.chargeEntry a = s := by
  unfold State.chargeEntry
  split
  · rfl
  · rfl
  next present => exact absurd present fate

theorem State.chargeEntry_of_present {s : State} {a : Attempt} (fate : a.fate = .present) :
    s.chargeEntry a = if 2 ≤ s.tx.entryErrors a then { s with tx := s.tx.dropEntry a }.bump .txErr
      else { s with tx := s.tx.setErrors a (s.tx.entryErrors a + 1) } := by
  simp only [State.chargeEntry, fate, Config.dropErrors, Nat.reduceLeDiff]

/-- An entry at its third error leaves its place (R56). -/
theorem Transmitter.charged_drop (x : Transmitter) (a : Attempt) (fate : a.fate = .present) (third : 2 ≤ x.entryErrors a) :
    x.charged a (x.dropEntry a).urgent (x.dropEntry a).sightings (x.dropEntry a).beacon 1 := by
  refine ⟨fun aside => absurd fate aside, fun _ => ?_⟩
  simp only [Transmitter.dropEntry, fate]
  refine ⟨fun source => ?_, fun source => ?_, fun source => ?_⟩ <;> simp only [Transmitter.entryErrors, source] at third ⊢
  · refine ⟨trivial, trivial, fun e rest urgent => ⟨fun few => ?_, fun _ => ⟨by simp [urgent], trivial⟩⟩⟩
    simp only [urgent, List.head?_cons, Option.map_some, Option.getD_some] at third
    omega
  · refine ⟨trivial, trivial, fun e rest sightings => ⟨fun few => ?_, fun _ => ⟨by simp [sightings], trivial⟩⟩⟩
    simp only [sightings, List.head?_cons, Option.map_some, Option.getD_some] at third
    omega
  · refine ⟨trivial, trivial, fun n beacon => ⟨fun few => ?_, fun _ => ⟨trivial, trivial⟩⟩⟩
    simp only [beacon, Option.getD_some] at third
    omega

/-- Below its third error an entry stays with one error more (R56). -/
theorem Transmitter.charged_keep (x : Transmitter) (a : Attempt) (fate : a.fate = .present) (few : x.entryErrors a < 2) :
    x.charged a (x.setErrors a (x.entryErrors a + 1)).urgent (x.setErrors a (x.entryErrors a + 1)).sightings
      (x.setErrors a (x.entryErrors a + 1)).beacon 0 := by
  refine ⟨fun aside => absurd fate aside, fun _ => ?_⟩
  simp only [Transmitter.setErrors]
  refine ⟨fun source => ?_, fun source => ?_, fun source => ?_⟩ <;> simp only [Transmitter.entryErrors, source] at few ⊢
  · refine ⟨trivial, trivial, fun e rest urgent => ?_⟩
    simp only [urgent, List.head?_cons, Option.map_some, Option.getD_some] at few ⊢
    exact ⟨fun _ => ⟨rfl, trivial⟩, fun third => by omega⟩
  · refine ⟨trivial, trivial, fun e rest sightings => ?_⟩
    simp only [sightings, List.head?_cons, Option.map_some, Option.getD_some] at few ⊢
    exact ⟨fun _ => ⟨rfl, trivial⟩, fun third => by omega⟩
  · refine ⟨trivial, trivial, fun n beacon => ?_⟩
    simp only [beacon, Option.getD_some] at few ⊢
    exact ⟨fun _ => ⟨rfl, trivial⟩, fun third => by omega⟩

/-- The charge of an attempt's entry: queues and slot, TX-ERR, and nothing else (R56). -/
theorem State.chargeEntry_charged (s : State) (a : Attempt) : ∃ urgent sightings beacon dropped,
    s.tx.charged a urgent sightings beacon dropped
      ∧ (s.chargeEntry a).tx = { s.tx with urgent := urgent, sightings := sightings, beacon := beacon }
      ∧ s.counts (s.chargeEntry a) .txErr dropped ∧ s.records (s.chargeEntry a) [.txErr] [] := by
  by_cases fate : a.fate = .present
  · rw [State.chargeEntry_of_present fate]
    by_cases third : 2 ≤ s.tx.entryErrors a
    · rw [if_pos third]
      obtain ⟨urgent, sightings, beacon, same, -⟩ := s.tx.dropEntry_eq a
      refine ⟨_, _, _, 1, s.tx.charged_drop a fate third, ?_, ?_, ?_⟩
      · change s.tx.dropEntry a = _
        rw [same]
      · exact State.bump_counts { s with tx := s.tx.dropEntry a } .txErr
      · exact State.bump_records { s with tx := s.tx.dropEntry a } .txErr []
    · rw [if_neg third]
      refine ⟨_, _, _, 0, s.tx.charged_keep a fate (Nat.lt_of_not_le third), ?_, s.counts_zero _, fun _ _ => rfl, fun _ _ => rfl⟩
      change s.tx.setErrors a _ = _
      unfold Transmitter.setErrors
      cases a.source <;> rfl
  · rw [State.chargeEntry_of_aside fate]
    exact ⟨_, _, _, 0, ⟨fun _ => ⟨rfl, rfl, rfl, rfl⟩, fun present => absurd present fate⟩, rfl, s.counts_zero _, .refl _ _ _⟩

/-- Settles O30: the charge of the entry, then the consecutive error count below 16 or MUTE. -/
theorem bitErrorsDropEntriesAndMute : Obligations.BitErrorsDropEntriesAndMute := by
  intro s a out sending below
  obtain ⟨urgent, sightings, beacon, dropped, charged, tx, counts, records⟩ := s.breakFrame.chargeEntry_charged a
  have breaks : exec .bitError s = .next (s.breakFrame.chargeEntry a).countError := by
    change execBitError s = _
    refine (s.act_out _ out).trans ?_
    simp only [sending]
  have consecutive : (s.breakFrame.chargeEntry a).tx.consecutive = s.tx.consecutive := by rw [tx]; rfl
  have line : (s.breakFrame.chargeEntry a).line = { s.line with status := .broken } :=
    s.breakFrame.chargeEntry_only a .line (by simp)
  have flags : (s.breakFrame.chargeEntry a).flags = s.flags := s.breakFrame.chargeEntry_only a .flags (by simp)
  have only := s.breakAttempt_only a
  refine ⟨_, urgent, sightings, beacon, dropped, breaks, charged, ?_⟩
  generalize s.breakFrame.chargeEntry a = c at *
  have recorded : s.records c [.txErr] [] := records
  rcases c.countError_tx with ⟨few, counted⟩ | ⟨many, counted⟩
  · rw [counted] at only ⊢
    rw [consecutive] at few
    refine ⟨fun _ => ⟨by rw [tx]; rfl, flags, ?_⟩, fun last => by omega, line, counts, ?_, ?_, only⟩
    · exact recorded.counts (u := c) (c.counts_zero _) (by simp)
    · exact (recorded.mono (ys := [.txErr, .muteDrop]) (gs := [.mute]) (by simp) (by simp)).1
    · exact (recorded.mono (ys := [.txErr, .muteDrop]) (gs := [.mute]) (by simp) (by simp)).2
  · rw [counted] at only ⊢
    rw [consecutive] at many
    have mutes : c.records (State.enterMute { c with tx := { c.tx with consecutive := 16 } }) [.muteDrop] [.mute] :=
      ⟨fun x other => State.bumpBy_counts_other _ .muteDrop x _ (by simpa using other), State.raise_flagsOnly _ _⟩
    have all := (recorded.mono (ys := [.txErr, .muteDrop]) (gs := [.mute]) (by simp) (by simp)).trans (mutes.mono (by simp) (by simp))
    refine ⟨fun few => by omega, fun last => ⟨by rw [State.enterMute_tx, tx]; rfl, State.raise_flagSet _ _, ?_⟩, line, ?_, all.1, all.2,
      only⟩
    · refine recorded.counts (xs := [.txErr]) (fs := []) ?_ (by simp)
      have lengths : urgent.length + sightings.length + beacon.toList.length
          = c.tx.urgent.length + c.tx.sightings.length + c.tx.beacon.toList.length := by rw [tx]
      rw [lengths]
      exact State.bumpBy_counts _ .muteDrop _
    · exact State.counts.then (s := s) counts mutes (by simp)

end Sys2Proof.Machine

/-! PROOF. Entering HELD (R78, R103, R161): what the ends of several FIRING tracks come to, and the state that HELD is entered with. -/

namespace Sys2Proof.Machine

/-! ## The records of a track's end (R103) -/

theorem TrackEnd.tally_ne_double (e : TrackEnd) (c : PieceClass) : e.tally c ≠ .double := by cases e <;> simp [TrackEnd.tally]

theorem State.endTrack_records (s : State) (t : Track) (e : TrackEnd) : s.records (s.endTrack t e) [e.tally t.cls, .double] [] := by
  have ended : s.records ((s.removeTrack t.made).bump (e.tally t.cls)) [e.tally t.cls, .double] [] :=
    (State.bump_records (s.removeTrack t.made) (e.tally t.cls) []).mono (by simp) (by simp)
  have counted : s.records ((s.removeTrack t.made).countEnd t e) [e.tally t.cls, .double] [] :=
    .ite _ (ended.trans ((State.bump_records _ .double []).mono (by simp) (by simp))) ended
  exact counted

/-- A track that carries no DOUBLE, or ends otherwise than FIRED, counts its outcome alone. -/
theorem State.endTrack_records_alone {s : State} {t : Track} {e : TrackEnd} (alone : ¬ (e = .fired ∧ t.double)) :
    s.records (s.endTrack t e) [e.tally t.cls] [] := by
  unfold State.endTrack State.countEnd
  dsimp only
  rw [if_neg alone]
  exact State.bump_records (s.removeTrack t.made) (e.tally t.cls) []

theorem State.endTrack_double (s : State) (t : Track) :
    s.counts (s.endTrack t .fired) .double (if t.double then 1 else 0) := by
  unfold State.endTrack State.countEnd
  dsimp only
  have plain := State.bump_records (s.removeTrack t.made) (TrackEnd.fired.tally t.cls) []
  have first : s.records ((s.removeTrack t.made).bump (TrackEnd.fired.tally t.cls)) [TrackEnd.fired.tally t.cls] [] := plain
  have apart : Tally.double ∉ [TrackEnd.fired.tally t.cls] := by simpa using (TrackEnd.tally_ne_double _ _).symm
  by_cases double : t.double = true
  · rw [if_pos ⟨rfl, double⟩, if_pos double]
    exact first.counts (State.bump_counts _ .double) apart
  · rw [if_neg fun h => double h.2, if_neg double]
    exact first.counts (State.counts_zero _ _) apart

theorem State.counts.add {s t u : State} {x : Tally} {m n : Nat} (h : s.counts t x m) (k : t.counts u x n) : s.counts u x (m + n) := by
  unfold State.counts at *
  omega

/-! ## Several tracks ended with SHORT (R78) -/

/-- A FIRING track listed is the one that its number finds, and it ends FIRED with SHORT. -/
theorem State.endShort_of_mem {s : State} {t : Track} (unique : (s.tracks.map Track.made).Nodup) (listed : t ∈ s.tracks) :
    s.endShort t.made = s.endTrack { t with short := true } .fired := by
  simp only [State.endShort, s.findTrack_of_mem t unique listed]

/-- A ring of 32 places takes further entries, the oldest leaving (R179). -/
theorem ring_append {α : Type} (ring rest : List α) (x : α) (fits : ring.length ≤ 32) :
    ((ring ++ [x]).drop (ring.length + 1 - 32) ++ rest).drop
        (((ring ++ [x]).drop (ring.length + 1 - 32)).length + rest.length - 32)
      = (ring ++ x :: rest).drop (ring.length + (x :: rest).length - 32) := by
  have shorter : ring.length + 1 - 32 ≤ (ring ++ [x]).length := by
    rw [List.length_append, List.length_singleton]
    omega
  rw [← List.drop_append_of_le_length shorter, List.drop_drop, List.append_assoc, List.singleton_append, List.length_drop,
    List.length_append, List.length_singleton, List.length_cons]
  congr 1
  omega

/-- From `s` to `u` the tracks of a list have ended FIRED with SHORT, in the order of the list. -/
structure State.EndsShort (s u : State) (ts : List Track) : Prop where
  fired : ∀ c, s.counts u (.fired c) (ts.countP fun t => t.cls = c)
  double : s.counts u .double (ts.countP Track.double)
  others : ∀ x, x ≠ .double → (∀ c, x ≠ .fired c) → u.tally x = s.tally x
  trace : s.trace.length ≤ 32 →
    u.trace = (s.trace ++ ts.map Track.shortEntry).drop (s.trace.length + (ts.map Track.shortEntry).length - 32)
  latest : u.latest = match (ts.map Track.shortEntry).getLast? with
    | none => s.latest
    | some x => some { entry := x, isNew := true }

theorem State.EndsShort.nil (s : State) : s.EndsShort s [] where
  fired _ := s.counts_zero _
  double := s.counts_zero _
  others _ _ _ := rfl
  trace fits := by simp [Nat.sub_eq_zero_of_le fits]
  latest := rfl

theorem State.EndsShort.cons {s u : State} {t : Track} {ts : List Track}
    (rest : (s.endTrack { t with short := true } .fired).EndsShort u ts) : s.EndsShort u (t :: ts) := by
  obtain ⟨-, fired, wrote, newest⟩ := s.endTrack_ends { t with short := true } .fired
  have records := s.endTrack_records { t with short := true } .fired
  refine ⟨fun c => ?_, ?_, fun x notDouble notFired => ?_, fun fits => ?_, ?_⟩
  · rw [List.countP_cons, Nat.add_comm]
    by_cases same : t.cls = c
    · subst same
      simpa using State.counts.add fired (rest.fired t.cls)
    · have unchanged := records.counts (rest.fired c) (by simp [TrackEnd.tally, Ne.symm same])
      simpa [same] using unchanged
  · rw [List.countP_cons, Nat.add_comm]
    exact State.counts.add (s.endTrack_double { t with short := true }) rest.double
  · rw [rest.others x notDouble notFired]
    exact records.1 x (by simp [TrackEnd.tally, notDouble, notFired t.cls])
  · have within : (s.endTrack { t with short := true } .fired).trace.length ≤ 32 := by
      rw [wrote, List.length_drop, List.length_append, List.length_singleton]
      omega
    rw [rest.trace within, wrote]
    exact ring_append s.trace _ _ fits
  · rw [rest.latest, newest, List.map_cons, List.getLast?_cons]
    cases (ts.map Track.shortEntry).getLast? <;> rfl

theorem State.endShorts_ends (ts : List Track) : ∀ s : State, (s.tracks.map Track.made).Nodup → (∀ t ∈ ts, t ∈ s.tracks) →
    (ts.map Track.made).Nodup → s.EndsShort ((ts.map Track.made).foldl State.endShort s) ts := by
  induction ts with
  | nil => exact fun s _ _ _ => .nil s
  | cons t rest ih =>
    intro s unique listed distinct
    rw [List.map_cons, List.nodup_cons] at distinct
    have inTable := listed t List.mem_cons_self
    have tracks := s.endShort_tracks t.made
    rw [List.map_cons, List.foldl_cons]
    refine State.EndsShort.cons ?_
    rw [← State.endShort_of_mem unique inTable]
    refine ih _ ?_ (fun u hu => ?_) distinct.2
    · rw [tracks]
      exact unique.sublist (List.filter_sublist.map _)
    · rw [tracks, List.mem_filter]
      refine ⟨listed u (List.mem_cons_of_mem _ hu), decide_eq_true fun same => distinct.1 ?_⟩
      exact same ▸ List.mem_map_of_mem hu

/-! ## The order in which the tracks end (log 4) -/

theorem arrange_map {α β : Type} (f : α → β) (n : Nat) : ∀ (k : Nat) (xs : List α), arrange k n (xs.map f) = (arrange k n xs).map f := by
  induction n with
  | zero => exact fun _ _ => rfl
  | succ n ih =>
    intro k xs
    match xs with
    | [] => rfl
    | [x] => rfl
    | x :: y :: rest =>
      have picked := ih (k + 1) ((x :: y :: rest).eraseIdx (Config.freePick k % (x :: y :: rest).length))
      rw [← List.eraseIdx_map] at picked
      simp only [List.map_cons, List.length_cons] at picked
      simp only [arrange, List.map_cons, List.length_cons, List.length_map, List.map_append, picked]
      congr 1
      rw [← List.map_cons, ← List.map_cons, List.getElem?_map, Option.toList_map]

/-- The FIRING tracks themselves, in the order in which entering HELD ends them. -/
theorem State.firingOrder_eq (s : State) : ∃ ts : List Track, ts.Perm (s.tracks.filter fun u => u.state = .firing)
    ∧ s.firingOrder = ts.map Track.made :=
  ⟨_, arrange_perm _ s.freeCount _ (Nat.le_refl _), by simp only [State.firingOrder, arrange_map, List.length_map]⟩

/-! ## HELD -/

/-- The tallies that entering HELD may move. -/
abbrev heldTallies : List Tally :=
  [.held, .double, .fired .unknown, .fired .metal, .fired .wire, .fired .foam, .fired .plastic, .fired .inert]

theorem fired_mem_heldTallies (c : PieceClass) : Tally.fired c ∈ heldTallies := by cases c <;> simp

theorem State.endShort_records (s : State) (id : Nat) : s.records (s.endShort id) heldTallies [] := by
  unfold State.endShort
  split
  · exact .refl _ _ _
  next t found =>
    refine (s.endTrack_records _ _).mono (fun x hx => ?_) (by simp)
    rcases List.mem_cons.mp hx with rfl | hx
    · exact fired_mem_heldTallies _
    · simp_all

theorem State.enterHeld_records (s : State) : s.records s.enterHeld heldTallies [.held] := by
  rw [s.enterHeld_eq]
  have ends : s.records (s.firingOrder.foldl State.endShort s) heldTallies [.held] :=
    State.records.foldl _ (fun t id => (t.endShort_records id).mono (by simp) (by simp)) _ s
  exact ends.trans ((State.bump_raise_records _ .held .held).mono (by simp) (by simp))

theorem State.enterHeld_valves (s : State) : s.enterHeld.valves = s.closeAllValves.valves := by
  rw [s.enterHeld_eq]
  rfl

theorem State.enterHeld_openCount (s : State) : s.enterHeld.openCount = 0 := by
  rw [State.openCount_eq_zero_iff, s.enterHeld_valves]
  intro i
  rw [s.closeAllValves_valves]
  exact closeValve_isOpen _ _ _

theorem State.enterHeld_counts (s : State) : s.counts s.enterHeld .held 1 := by
  rw [s.enterHeld_eq]
  have ends : s.records (s.firingOrder.foldl State.endShort s) (heldTallies.tail) [] := by
    refine State.records.foldl _ (fun t id => ?_) _ s
    unfold State.endShort
    split
    · exact .refl _ _ _
    next u found =>
      refine (t.endTrack_records _ _).mono (fun x hx => ?_) (by simp)
      rcases List.mem_cons.mp hx with rfl | hx
      · cases u.cls <;> simp [TrackEnd.tally]
      · simp_all
  exact ends.counts (State.bump_counts _ .held) (by simp)

theorem State.enterHeld_flag (s : State) : s.enterHeld.flagSet .held = true := by
  rw [s.enterHeld_eq]
  exact State.raise_flagSet _ _

theorem State.enterHeld_tracks {s : State} (sound : s.tableSound) : s.enterHeld.tracks = s.tracks.filter fun u => u.state ≠ .firing := by
  obtain ⟨ts, perm, order⟩ := s.firingOrder_eq
  have tracks : s.enterHeld.tracks = s.tracks.filter fun u => decide (u.made ∉ s.firingOrder) := by
    rw [s.enterHeld_eq]
    exact s.endShorts_tracks _
  rw [tracks]
  refine List.filter_congr fun u listed => ?_
  have : u.made ∈ s.firingOrder ↔ u.state = .firing := by
    rw [s.mem_firingOrder]
    refine ⟨?_, fun firing => ⟨u, listed, firing, rfl⟩⟩
    rintro ⟨v, inTable, firing, same⟩
    rw [State.eq_of_made sound inTable listed same.symm]
    exact firing
  simp [this]

/-- Settles O36: HELD is entered with the FIRING tracks ended one after another, then valves, tally and flag. -/
theorem enteringHeldStopsTheValves : Obligations.EnteringHeldStopsTheValves := by
  intro s sound t ending
  obtain ⟨ts, perm, order⟩ := s.firingOrder_eq
  have inTable : ∀ u ∈ ts, u ∈ s.tracks := fun u hu => (List.mem_filter.mp (perm.mem_iff.mp hu)).1
  have distinct : (ts.map Track.made).Nodup :=
    (perm.map Track.made).nodup_iff.mpr (sound.1.sublist (List.filter_sublist.map _))
  have ends := s.endShorts_ends ts sound.1 inTable distinct
  rw [← order] at ends
  have entered : ∀ x, x ≠ .held → t.tally x = (s.firingOrder.foldl State.endShort s).tally x := by
    intro x other
    change s.enterHeld.tally x = _
    rw [s.enterHeld_eq]
    exact (State.bump_raise_records _ .held .held).1 x (by simpa using other)
  have counted : ∀ x n, x ≠ .held → s.counts (s.firingOrder.foldl State.endShort s) x n → s.counts t x n := fun x n other h => by
    rw [State.counts, entered x other]
    exact h
  have trace : t.trace = (s.firingOrder.foldl State.endShort s).trace := by
    change s.enterHeld.trace = _
    rw [s.enterHeld_eq]
    rfl
  have latest : t.latest = (s.firingOrder.foldl State.endShort s).latest := by
    change s.enterHeld.latest = _
    rw [s.enterHeld_eq]
    rfl
  refine ⟨s.enterHeld_mode, State.enterHeld_tracks sound, fun i => ?_, s.enterHeld_openCount, s.enterHeld_counts, s.enterHeld_flag,
    s.enterHeld_records.2, fun c => ?_, ?_, fun x notHeld notDouble notFired => ?_, ⟨ts.map Track.shortEntry, perm.map _,
      fun fits => trace.trans (ends.trace fits), fun none => ?_, fun x last => ?_⟩, s.enterHeld_only⟩
  · have valve : t.valves[i] = closeValve s.belt.timebase s.record.recovery s.valves[i] := by
      change (s.enterHeld.valves)[i] = _
      rw [s.enterHeld_valves, s.closeAllValves_valves]
    rw [valve]
    cases s.valves[i] <;> simp [Valve.isOpen, closeValve]
  · refine counted _ _ (by simp) ?_
    have same : ending.countP (fun u => u.cls = c) = ts.countP fun u => u.cls = c := (perm.countP_eq _).symm
    rw [same]
    exact ends.fired c
  · refine counted _ _ (by simp) ?_
    have same : ending.countP Track.double = ts.countP Track.double := (perm.countP_eq _).symm
    rw [same]
    exact ends.double
  · rw [entered x notHeld, ends.others x notDouble notFired]
  · rw [latest, ends.latest, none]
    rfl
  · rw [latest, ends.latest, last]

end Sys2Proof.Machine

/-! PROOF. Frames received (section 3.6, R69 to R73) and the operator's halt (R74, R75): peer table, gaps, inbox, copy FIFO and the
station state that follows the halt set. -/

namespace Sys2Proof.Machine

/-! ## The station state set again (R77) -/

theorem State.settleMode_of_entering {s : State} (run : s.mode = .run) (held : s.haltSet ≠ 0) : s.settleMode = s.enterHeld := by
  unfold State.settleMode
  rw [run]
  exact if_neg held

/-- Unless HELD is entered, the station state alone is set again. -/
theorem State.settleMode_only_of_quiet {s : State} (quiet : s.mode ≠ .run ∨ s.haltSet = 0) : s.changesOnly s.settleMode [.mode] := by
  rw [s.settleMode_of_run_empty fun run => quiet.resolve_left (not_not.mpr run)]
  exact s.setMode_only _

theorem State.settleMode_records (s : State) : s.records s.settleMode heldTallies [.held] := by
  by_cases quiet : s.mode ≠ .run ∨ s.haltSet = 0
  · exact (State.settleMode_only_of_quiet quiet).records (by simp) (by simp) _ _
  · obtain ⟨run, held⟩ := not_or.mp quiet
    rw [State.settleMode_of_entering (not_not.mp run) held]
    exact s.enterHeld_records

/-! ## Peers and gaps (R63, R69) -/

theorem State.updatePeer_same (s : State) (id : Fin 24) (f : Peer → Peer) : (s.updatePeer id f).peers[id] = f s.peers[id] := by
  simp [State.updatePeer]

theorem State.updatePeer_other (s : State) {id i : Fin 24} (f : Peer → Peer) (other : i ≠ id) :
    (s.updatePeer id f).peers[i] = s.peers[i] := by
  have apart : id.val ≠ i.val := fun same => other (Fin.ext same.symm)
  simp [State.updatePeer, apart]

theorem Peer.gap_eq (p : Peer) (sequence : Byte) :
    p.gap sequence = if p.state = .live then (sequence - p.lastSequence - 1).toNat else 0 := by
  unfold Peer.gap
  cases p.state <;> rfl

theorem State.countGap_countsGap (s : State) (p : Peer) (sequence : Byte) : s.countsGap (s.countGap (p.gap sequence)) p sequence := by
  unfold State.countsGap State.countGap
  rw [← Peer.gap_eq]
  split
  next none => rw [none]; exact ⟨s.counts_zero _, by simp⟩
  next gap => exact ⟨s.bumpBy_counts _ _, by rw [State.raise_sets]; simp [gap, State.flagSet]⟩

theorem State.countsGap.then {s t u : State} {p : Peer} {sequence : Byte} {xs : List Tally} {fs : List Flag}
    (h : s.countsGap t p sequence) (k : t.records u xs fs) (tally : Tally.gaps ∉ xs) (flag : Flag.gaps ∉ fs) :
    s.countsGap u p sequence :=
  ⟨h.1.then k tally, (k.2 .gaps flag).trans h.2⟩

theorem State.countGap_records (s : State) (g : Nat) : s.records (s.countGap g) [.gaps] [.gaps] :=
  .ite _ (.refl _ _ _) ((s.bumpBy_records _ _ _).trans (State.raise_records _ _ _))

/-- The entry of a sender heard: LIVE, with the frame's number, its start-edge time and a new loss due time (R63, R69). -/
theorem State.hearPeer_same (s : State) (id : Fin 24) (sequence : Byte) :
    (s.hearPeer id sequence).peers[id] = (s.peers[id]).hear sequence s.line.tSof s.record.beaconInterval := by
  rw [State.hearPeer, State.updatePeer_same, State.countGap_only _ _ .peers (by simp)]

theorem State.hearPeer_other (s : State) {id i : Fin 24} (sequence : Byte) (other : i ≠ id) :
    (s.hearPeer id sequence).peers[i] = s.peers[i] := by
  rw [State.hearPeer, State.updatePeer_other _ _ other, State.countGap_only _ _ .peers (by simp)]

theorem State.hearPeer_countsGap (s : State) (id : Fin 24) (sequence : Byte) :
    s.countsGap (s.hearPeer id sequence) (s.peers[id]) sequence :=
  (s.countGap_countsGap _ _).then (xs := []) (fs := []) ((State.updatePeer_only _ _ _).records (by simp) (by simp) _ _) (by simp)
    (by simp)

theorem State.hearPeer_records (s : State) (id : Fin 24) (sequence : Byte) : s.records (s.hearPeer id sequence) [.gaps] [.gaps] :=
  (s.countGap_records _).trans ((State.updatePeer_only _ _ _).records (by simp) (by simp) _ _)

/-! ## Inbox and copy FIFO (R64, R66) -/

theorem Role.ejects_iff (r : Role) : r.ejects = true ↔ r ≠ .sense := by cases r <;> simp [Role.ejects]

theorem State.offerInbox_of_aside {s : State} (e : InboxEntry) (aside : s.mode = .setup ∨ s.record.role = .sense) :
    s.offerInbox e = s := by
  have : ¬ (s.operating && s.record.role.ejects) = true := by
    rw [Bool.and_eq_true, Role.ejects_iff]
    rintro ⟨operating, ejects⟩
    rcases aside with setup | sense
    · simp [State.operating, setup] at operating
    · exact ejects sense
  exact if_neg this

theorem State.offerInbox_of_taken {s : State} (e : InboxEntry) (operating : s.mode ≠ .setup) (ejects : s.record.role ≠ .sense) :
    s.offerInbox e = if 16 ≤ s.inbox.length then (s.bump .rxOverrun).raise .rxOverrun else { s with inbox := s.inbox ++ [e] } :=
  if_pos (Bool.and_eq_true_iff.mpr ⟨State.operating_of operating, (Role.ejects_iff _).mpr ejects⟩)

theorem State.offerInbox_records (s : State) (e : InboxEntry) : s.records (s.offerInbox e) [.rxOverrun] [.rxOverrun] := by
  unfold State.offerInbox
  exact .ite _ (.ite _ (s.bump_raise_records _ _) ⟨fun _ _ => rfl, fun _ _ => rfl⟩) (.refl _ _ _)

theorem State.offerCopy_records (s : State) (f : WireFrame) (k : FrameKind) : s.records (s.offerCopy f k) [.copyLoss] [] := by
  unfold State.offerCopy
  exact .ite _ (.ite _ (s.bump_records _ _) ⟨fun _ _ => rfl, fun _ _ => rfl⟩) (.refl _ _ _)

theorem State.offerCopy_copied (s : State) (f : WireFrame) (k : FrameKind) : s.copied (s.offerCopy f k) f k := by
  unfold State.copied State.offerCopy
  refine ⟨fun routed room => ?_, fun routed full => ?_, fun aside => ?_⟩
  · rw [if_pos routed]
    rw [if_neg (show ¬ Config.maxCopies ≤ s.copies.length from Nat.not_le.mpr room)]
    exact ⟨rfl, rfl⟩
  · rw [if_pos routed]
    rw [if_pos (show Config.maxCopies ≤ s.copies.length from full)]
    exact ⟨rfl, s.bump_counts _⟩
  · rw [if_neg (by simp [aside])]
    exact ⟨rfl, rfl⟩

/-- A copy is judged by FIFO, record, start edge and COPY-LOSS alone. -/
theorem State.copied_of_same {s x t : State} {ps : List Part} {f : WireFrame} {k : FrameKind} {xs : List Tally} {fs : List Flag}
    (only : s.changesOnly x ps) (apart : ∀ p ∈ [Part.record, .copies], p ∉ ps)
    (line : x.line.cSof = s.line.cSof ∧ x.line.tSof = s.line.tSof) (records : s.records x xs fs) (tally : Tally.copyLoss ∉ xs)
    (copied : x.copied t f k) : s.copied t f k := by
  obtain ⟨cSof, tSof⟩ := line
  have record := only .record (apart _ (by simp))
  have copies := only .copies (apart _ (by simp))
  have loss := records.1 .copyLoss tally
  unfold State.copied at copied ⊢
  unfold State.counts at copied ⊢
  rw [record, copies, cSof, tSof, loss] at copied
  exact copied

/-! ## FRAME_RECEIVED (R59 to R62) -/

theorem frameReceived_breaks {f : WireFrame} {s : State} (out : s.inReset = false) (quiet : s.tx.attempt = none)
    (discarded : s.line.status = .broken ∨ ((∃ own, s.line.status = .receiving own) ∧ acceptFrame f = none)) :
    exec (.frameReceived f) s = .next (s.endFrame.bump .rxCrc) := by
  change execFrameReceived f s = _
  refine (s.act_out _ out).trans ?_
  rcases discarded with broken | ⟨⟨own, receiving⟩, refused⟩
  · simp only [broken, quiet]
  · simp only [receiving, quiet, refused]

theorem frameReceived_accepts {f : WireFrame} {b : Body} {s : State} {own : Bool} (out : s.inReset = false)
    (quiet : s.tx.attempt = none) (receiving : s.line.status = .receiving own) (accepted : acceptFrame f = some b) :
    exec (.frameReceived f) s = .next (s.endFrame.acceptedFrame own f b) := by
  change execFrameReceived f s = _
  refine (s.act_out _ out).trans ?_
  simp only [receiving, quiet, accepted]

theorem State.endFrame_records (s : State) (xs : List Tally) (fs : List Flag) : s.records s.endFrame xs fs :=
  s.endFrame_only.records (by simp) (by simp) _ _

/-- Settles O33: what is read of the frame, and whose it is, decide. -/
theorem discardedOwnAndDuplicateFrames : Obligations.DiscardedOwnAndDuplicateFrames := by
  intro f s out quiet discarded
  have discards (reason : s.line.status = .broken ∨ ((∃ own, s.line.status = .receiving own) ∧ acceptFrame f = none)) : discarded :=
    ⟨_, frameReceived_breaks out quiet reason, rfl, State.bump_counts _ .rxCrc,
      ((s.endFrame_records _ _).trans (s.endFrame.bump_records .rxCrc [])).1,
      s.endFrame_only.then (s.endFrame.bump_only _) (by simp) (by simp)⟩
  refine ⟨fun broken => discards (.inl broken), fun own receiving => ⟨fun refused => discards (.inr ⟨⟨own, receiving⟩, refused⟩),
    fun b accepted => ⟨?_, ?_⟩⟩⟩
  · rintro rfl
    refine ⟨_, frameReceived_accepts out quiet receiving accepted, ?_⟩
    rw [show s.endFrame.acceptedFrame true f b = s.endFrame.offerCopy f b.kind from rfl]
    refine ⟨s.endFrame.offerCopy_only _ _ .line (by simp), ?_, ?_, ?_⟩
    · exact State.copied_of_same s.endFrame_only (by simp) ⟨rfl, rfl⟩ (s.endFrame_records [] []) (by simp)
        (s.endFrame.offerCopy_copied _ _)
    · exact ((s.endFrame_records _ _).trans (s.endFrame.offerCopy_records f b.kind)).1
    · exact s.endFrame_only.then (s.endFrame.offerCopy_only _ _) (by simp) (by simp)
  · rintro rfl sender
    refine ⟨_, frameReceived_accepts out quiet receiving accepted, ?_⟩
    have is : s.endFrame.acceptedFrame false f b = (s.endFrame.bump .dupId).raise .dupId :=
      (if_neg Bool.false_ne_true).trans (if_pos sender)
    have records := (s.endFrame_records _ _).trans (s.endFrame.bump_raise_records .dupId .dupId)
    rw [is]
    exact ⟨rfl, State.bump_counts _ .dupId, State.raise_flagSet _ _, records.1, records.2,
      s.endFrame_only.then (State.bump_raise_only _ _ _) (by simp) (by simp)⟩

/-- An accepted frame of another station is heard, routed and offered to the copy FIFO. -/
theorem frameReceived_takes {f : WireFrame} {b : Body} {s : State} {id : Fin 24} (out : s.inReset = false)
    (receiving : s.line.status = .receiving false) (quiet : s.tx.attempt = none) (accepted : acceptFrame f = some b)
    (sender : f.sender.toNat = id.val) (other : f.sender ≠ s.strapId) :
    exec (.frameReceived f) s = .next (((s.endFrame.hearPeer id f.sequence).route id b).offerCopy f b.kind) := by
  rw [frameReceived_accepts out quiet receiving accepted]
  have station : f.sender.toNat < 24 := sender ▸ id.isLt
  have same : (⟨f.sender.toNat, station⟩ : Fin 24) = id := Fin.ext sender
  refine congrArg _ ((if_neg Bool.false_ne_true).trans ((if_neg other).trans ((dif_pos station).trans ?_)))
  rw [same]
  rfl

/-- Settles O34: the frame is heard, then joins the inbox and the copy FIFO. -/
theorem heardFramesReachPeerInboxAndCopies : Obligations.HeardFramesReachPeerInboxAndCopies := by
  intro f b s id out receiving quiet accepted notHalt notStatus sender other
  let heard := s.endFrame.hearPeer id f.sequence
  let entry : InboxEntry := { sender := id.val, body := b, cSof := s.line.cSof, tSof := s.line.tSof }
  have heardOnly : s.changesOnly heard [.line, .peers, .tallies, .flags] :=
    s.endFrame_only.then (s.endFrame.hearPeer_only _ _) (by simp) (by simp)
  have heardRecords : s.records heard [.gaps] [.gaps] := (s.endFrame_records _ _).trans (s.endFrame.hearPeer_records _ _)
  have heardGap : s.countsGap heard (s.peers[id]) f.sequence := s.endFrame.hearPeer_countsGap id f.sequence
  have heardLine : heard.line = { s.line with status := .waiting } := s.endFrame.hearPeer_only _ _ .line (by simp)
  have routed : heard.route id b = heard.offerInbox entry := by
    have stamps : entry = { sender := id.val, body := b, cSof := heard.line.cSof, tSof := heard.line.tSof } := by
      rw [heardLine]
    rw [stamps]
    cases b with
    | halt => exact absurd rfl notHalt
    | status => exact absurd rfl notStatus
    | fired | missed | claim | sight => rfl
  let boxed := heard.offerInbox entry
  have boxedOnly : heard.changesOnly boxed [.inbox, .tallies, .flags] := heard.offerInbox_only entry
  have copyOnly : boxed.changesOnly (boxed.offerCopy f b.kind) [.copies, .tallies] := boxed.offerCopy_only f b.kind
  have copyRecords := boxed.offerCopy_records f b.kind
  have boxedRecords : s.records boxed [.gaps, .rxOverrun] [.gaps, .rxOverrun] :=
    (heardRecords.mono (by simp) (by simp)).trans ((heard.offerInbox_records entry).mono (by simp) (by simp))
  have all : s.records (boxed.offerCopy f b.kind) [.gaps, .copyLoss, .rxOverrun] [.gaps, .rxOverrun] :=
    (boxedRecords.mono (by simp) (by simp)).trans (copyRecords.mono (by simp) (by simp))
  have mode : heard.mode = s.mode := heardOnly .mode (by simp)
  have record : heard.record = s.record := heardOnly .record (by simp)
  have inbox : heard.inbox = s.inbox := heardOnly .inbox (by simp)
  refine ⟨boxed.offerCopy f b.kind, ?_, ?_, ?_, fun i apart => ?_, ?_, fun aside => ?_, fun operating ejects => ⟨fun room => ?_,
    fun full => ?_⟩, fun fits => ?_, ?_, all.1, all.2, ?_⟩
  · rw [frameReceived_takes out receiving quiet accepted sender other, routed]
  · rw [copyOnly .line (by simp), boxedOnly .line (by simp), heardLine]
  · rw [copyOnly .peers (by simp), boxedOnly .peers (by simp)]
    exact s.endFrame.hearPeer_same id f.sequence
  · rw [copyOnly .peers (by simp), boxedOnly .peers (by simp)]
    exact s.endFrame.hearPeer_other f.sequence apart
  · exact (heardGap.then (heard.offerInbox_records entry) (by simp) (by simp)).then copyRecords (by simp) (by simp)
  · rw [copyOnly .inbox (by simp)]
    have same : boxed = heard := State.offerInbox_of_aside entry (by rwa [mode, record])
    rw [same, inbox]
  · rw [copyOnly .inbox (by simp)]
    have taken : boxed = _ := State.offerInbox_of_taken entry (by rwa [mode]) (by rwa [record])
    rw [taken, inbox, if_neg (Nat.not_le.mpr room)]
  · rw [copyOnly .inbox (by simp), copyRecords.2 .rxOverrun (by simp)]
    have taken : boxed = _ := State.offerInbox_of_taken entry (by rwa [mode]) (by rwa [record])
    rw [inbox, if_pos full] at taken
    refine ⟨?_, ?_, ?_⟩
    · rw [taken]
      exact inbox
    · refine State.counts.then ?_ copyRecords (by simp)
      rw [taken]
      exact heardRecords.counts (State.bump_raise_counts heard .rxOverrun .rxOverrun) (by simp)
    · rw [taken]
      exact State.raise_flagSet _ _
  · have same : heard.records boxed [] [] := by
      by_cases aside : s.mode = .setup ∨ s.record.role = .sense
      · rw [show boxed = heard from State.offerInbox_of_aside entry (by rwa [mode, record])]
        exact .refl _ _ _
      · obtain ⟨operating, ejects⟩ := not_or.mp aside
        have room : s.inbox.length < 16 := by
          rcases fits with setup | sense | room
          · exact absurd setup operating
          · exact absurd sense ejects
          · exact room
        have taken : boxed = _ := State.offerInbox_of_taken entry (by rwa [mode]) (by rwa [record])
        rw [taken, inbox, if_neg (Nat.not_le.mpr room)]
        exact ⟨fun _ _ => rfl, fun _ _ => rfl⟩
    have few : s.records (boxed.offerCopy f b.kind) [.gaps, .copyLoss] [.gaps] :=
      ((heardRecords.mono (by simp) (by simp)).trans (same.mono (by simp) (by simp))).trans (copyRecords.mono (by simp) (by simp))
    exact ⟨few.1, few.2⟩
  · refine State.copied_of_same (x := boxed) (heardOnly.then boxedOnly (rs := [.line, .peers, .inbox, .tallies, .flags]) (by simp)
      (by simp)) (by simp) ?_ boxedRecords (by simp) (boxed.offerCopy_copied f b.kind)
    rw [boxedOnly .line (by simp), heardLine]
    exact ⟨rfl, rfl⟩
  · exact (heardOnly.then boxedOnly (rs := [.line, .peers, .inbox, .copies, .tallies, .flags]) (by simp) (by simp)).trans
      (copyOnly.mono (by simp))

end Sys2Proof.Machine

/-! PROOF. The line hold (R71 to R78): halt flags of peers and the own halt put an id into the halt set or take it out, and the
station state follows. -/

namespace Sys2Proof.Machine

/-! ## An id put into the halt set or taken out (R72) -/

/-- The halt set with an id in it or out of it. -/
def State.setHalt (s : State) (id : Nat) (on : Bool) : State := if on then s.addHalt id else s.removeHalt id

theorem State.setHalt_only (s : State) (id : Nat) (on : Bool) : s.changesOnly (s.setHalt id on) [.haltSet] :=
  .ite _ (s.addHalt_only id) (s.removeHalt_only id)

theorem State.inHaltSet_setHalt (s : State) (id k : Nat) (on : Bool) (station : k < 24) :
    (s.setHalt id on).inHaltSet k = if k = id then on else s.inHaltSet k := by
  cases on with
  | true =>
    refine (s.inHaltSet_addHalt k station).trans ?_
    by_cases same : k = id <;> simp [same]
  | false =>
    refine (s.inHaltSet_removeHalt id k station).trans ?_
    by_cases same : k = id <;> simp [same]

/-- An id in the halt set keeps it from being empty. -/
theorem State.haltSet_ne_zero {s : State} {k : Nat} (inSet : s.inHaltSet k = true) : s.haltSet ≠ 0 := by
  intro empty
  rw [State.inHaltSet, empty, BitVec.ofNat_eq_ofNat, BitVec.getLsbD_zero] at inSet
  exact Bool.false_ne_true inSet

/-! ## HALT and STATUS of a peer (R71, R73) -/

/-- A peer's halt flag set or cleared and its id put into or taken from the halt set, the station state not yet set again. -/
def State.flagged (s : State) (id : Fin 24) (on : Bool) : State :=
  (s.updatePeer id fun p => { p with haltFlag := on }).setHalt id.val on

theorem State.peerHalt_eq (s : State) (id : Fin 24) (on : Bool) : s.peerHalt id on = (s.flagged id on).settleMode := rfl

theorem State.flagged_only (s : State) (id : Fin 24) (on : Bool) : s.changesOnly (s.flagged id on) [.peers, .haltSet] :=
  (s.updatePeer_only _ _).then (State.setHalt_only _ _ _) (by simp) (by simp)

theorem State.flagged_same (s : State) (id : Fin 24) (on : Bool) :
    (s.flagged id on).peers[id] = { s.peers[id] with haltFlag := on } := by
  rw [State.flagged, State.setHalt_only _ _ _ .peers (by simp), State.updatePeer_same]

theorem State.flagged_other (s : State) {id i : Fin 24} (on : Bool) (other : i ≠ id) :
    (s.flagged id on).peers[i] = s.peers[i] := by
  rw [State.flagged, State.setHalt_only _ _ _ .peers (by simp), State.updatePeer_other _ _ other]

theorem State.inHaltSet_flagged (s : State) (id : Fin 24) (on : Bool) {k : Nat} (station : k < 24) :
    (s.flagged id on).inHaltSet k = if k = id.val then on else s.inHaltSet k := State.inHaltSet_setHalt _ _ _ _ station

/-- A HALT or STATUS taken is the peer's entry changed, its flag taken over, and the station state set again. -/
theorem State.route_of_flag {x : State} {b : Body} {id : Fin 24} {on : Bool}
    (carries : (∃ cause, b = .halt on cause) ∨ (∃ v, b = .status v ∧ v.haltFlag = on)) :
    ∃ y, x.route id b = (y.flagged id on).settleMode ∧ x.changesOnly y [.peers]
      ∧ (∀ cause, b = .halt on cause → y.peers[id] = x.peers[id])
      ∧ (∀ v, b = .status v → y.peers[id] = { x.peers[id] with about := some v.about })
      ∧ (∀ i : Fin 24, i ≠ id → y.peers[i] = x.peers[i]) := by
  rcases carries with ⟨cause, rfl⟩ | ⟨v, rfl, flag⟩
  · exact ⟨x, rfl, .refl _ _, fun _ _ => rfl, (fun _ is => nomatch is), fun _ _ => rfl⟩
  · refine ⟨x.updatePeer id fun p => { p with about := some v.about }, ?_, x.updatePeer_only _ _, (fun _ is => nomatch is),
      fun w is => ?_, fun i other => x.updatePeer_other _ other⟩
    · rw [← flag]
      rfl
    · cases is
      exact x.updatePeer_same _ _

theorem State.enterHeld_openCount_of_same {s t : State} (valves : t.valves = s.enterHeld.valves) : t.openCount = 0 := by
  rw [State.openCount, valves]
  exact s.enterHeld_openCount

/-- Settles O35: the frame is heard, its flag taken over, the station state set again, and the copy offered. -/
theorem haltFramesHoldAndReleaseTheLine : Obligations.HaltFramesHoldAndReleaseTheLine := by
  intro f b on s id out receiving quiet accepted carries sender other heard
  let known := s.endFrame.hearPeer id f.sequence
  have knownOnly : s.changesOnly known [.line, .peers, .tallies, .flags] :=
    s.endFrame_only.then (s.endFrame.hearPeer_only _ _) (by simp) (by simp)
  have knownRecords : s.records known [.gaps] [.gaps] := (s.endFrame_records _ _).trans (s.endFrame.hearPeer_records _ _)
  have knownLine : known.line = { s.line with status := .waiting } := s.endFrame.hearPeer_only _ _ .line (by simp)
  have knownSame : known.peers[id] = (s.peers[id]).hear f.sequence s.line.tSof s.record.beaconInterval :=
    s.endFrame.hearPeer_same id f.sequence
  have knownOther : ∀ i : Fin 24, i ≠ id → known.peers[i] = s.peers[i] := fun i apart => s.endFrame.hearPeer_other _ apart
  have knownGap : s.countsGap known (s.peers[id]) f.sequence := s.endFrame.hearPeer_countsGap id f.sequence
  obtain ⟨y, routed, described, isHalt, isStatus, others⟩ := State.route_of_flag (x := known) (id := id) carries
  let z := y.flagged id on
  have zOnly : s.changesOnly z [.line, .peers, .haltSet, .tallies, .flags] :=
    (knownOnly.then described (rs := [.line, .peers, .haltSet, .tallies, .flags]) (by simp) (by simp)).trans
      ((y.flagged_only _ _).mono (by simp))
  have unrecorded : known.records z [] [] :=
    (described.records (by simp) (by simp) _ _).trans ((y.flagged_only _ _).records (by simp) (by simp) _ _)
  have zRecords : s.records z [.gaps] [.gaps] := knownRecords.trans (unrecorded.mono (by simp) (by simp))
  have zLine : z.line = { s.line with status := .waiting } := by
    rw [y.flagged_only _ _ .line (by simp), described .line (by simp), knownLine]
  have settled := z.settleMode_only
  have copied := z.settleMode.offerCopy_only f b.kind
  have settledRecords := z.settleMode_records
  have copiedRecords := z.settleMode.offerCopy_records f b.kind
  have peers : (z.settleMode.offerCopy f b.kind).peers = z.peers := by rw [copied .peers (by simp), settled .peers (by simp)]
  have haltSet : (z.settleMode.offerCopy f b.kind).haltSet = z.haltSet := by
    rw [copied .haltSet (by simp), settled .haltSet (by simp)]
  have mode : z.mode = s.mode := zOnly .mode (by simp)
  refine ⟨z.settleMode.offerCopy f b.kind, ?_, ?_, fun k station => ?_, fun cause is => ?_, fun v is => ?_, fun i apart => ?_, ?_, ?_, ?_,
    fun run held => ?_, fun quietly => ?_⟩
  · rw [frameReceived_takes out receiving quiet accepted sender other]
    exact congrArg (fun x => Host.Outcome.next (x.offerCopy f b.kind)) routed
  · rw [copied .line (by simp), settled .line (by simp), zLine]
  · rw [State.inHaltSet, haltSet]
    refine (y.inHaltSet_flagged id on station).trans ?_
    rw [State.inHaltSet, described .haltSet (by simp), knownOnly .haltSet (by simp)]
    rfl
  · rw [peers, State.flagged_same, isHalt cause is, knownSame]
    rfl
  · rw [peers, State.flagged_same, isStatus v is, knownSame]
    rfl
  · rw [peers, State.flagged_other _ _ apart, others i apart, knownOther i apart]
  · exact ((knownGap.then unrecorded (by simp) (by simp)).then settledRecords (by simp) (by simp)).then copiedRecords (by simp)
      (by simp)
  · refine State.copied_of_same (x := z.settleMode) (zOnly.then settled (rs := [.line, .peers, .haltSet, .mode, .freeCount,
      .valves, .tracks, .tallies, .flags, .trace, .latest]) (by simp) (by simp)) (by simp) ?_
      ((zRecords.mono (by simp) (by simp)).trans (settledRecords.mono (ys := .gaps :: heldTallies) (gs := [.gaps, .held])
        (by simp) (by simp))) (by simp) (z.settleMode.offerCopy_copied f b.kind)
    rw [settled .line (by simp), zLine]
    exact ⟨rfl, rfl⟩
  · rw [copied .mode (by simp), z.settleMode_mode, mode, haltSet]
  · rw [haltSet] at held
    have entered : z.settleMode = z.enterHeld := State.settleMode_of_entering (mode.trans run) held
    rw [entered] at copied settled settledRecords copiedRecords ⊢
    have flags : s.records (z.enterHeld.offerCopy f b.kind) (.gaps :: .copyLoss :: heldTallies) [.gaps, .held] :=
      ((zRecords.mono (by simp) (by simp)).trans (settledRecords.mono (by simp) (by simp))).trans
        (copiedRecords.mono (by simp) (by simp))
    refine ⟨State.enterHeld_openCount_of_same (copied .valves (by simp)), ?_, ?_, flags.2, fun sound => ?_, ?_⟩
    · exact (zRecords.counts z.enterHeld_counts (by simp)).then copiedRecords (by simp)
    · rw [copiedRecords.2 .held (by simp)]
      exact z.enterHeld_flag
    · have soundly : z.tableSound := State.tableSound_of_same (zOnly .tracks (by simp)) (zOnly .nextMade (by simp)) sound
      rw [copied .tracks (by simp), State.enterHeld_tracks soundly, zOnly .tracks (by simp)]
    · exact (zOnly.then settled (rs := [.line, .peers, .haltSet, .copies, .mode, .freeCount, .valves, .tracks, .tallies, .flags,
        .trace, .latest]) (by simp) (by simp)).trans (copied.mono (by simp))
  · rw [haltSet] at quietly
    have alone := State.settleMode_only_of_quiet (s := z) (by rwa [mode])
    have few : s.records (z.settleMode.offerCopy f b.kind) [.gaps, .copyLoss] [.gaps] :=
      ((zRecords.mono (by simp) (by simp)).trans (alone.records (by simp) (by simp) _ _)).trans
        (copiedRecords.mono (by simp) (by simp))
    exact ⟨few.1, few.2, (zOnly.then alone (rs := [.line, .peers, .haltSet, .copies, .mode, .tallies, .flags]) (by simp)
      (by simp)).trans (copied.mono (by simp))⟩

/-! ## The own halt (R74, R75) -/

/-- The halt set and the own entry after a change of the own halt, and the HALT frame offered, the station state not yet set again. -/
def State.announced (s : State) (on : Bool) (cause : HaltCause) : State :=
  ((s.setHalt s.strapId.toNat on).ownFlag on).offer (.halt on cause)

theorem State.ownHaltChanged_of_same {s : State} {was : Bool} (cause : HaltCause) (same : s.ownHalt = was) :
    s.ownHaltChanged was cause = s := if_pos same

theorem State.ownHaltChanged_of_change {s : State} {was : Bool} (cause : HaltCause) (change : s.ownHalt ≠ was) :
    s.ownHaltChanged was cause = (s.announced s.ownHalt cause).settleMode := by
  unfold State.ownHaltChanged State.announced State.setHalt
  rw [if_neg change]
  cases s.ownHalt <;> rfl

theorem State.flag_only (s : State) (on : Bool) :
    s.changesOnly ((s.setHalt s.strapId.toNat on).ownFlag on) [.haltSet, .peers] :=
  (s.setHalt_only _ _).then (State.ownFlag_only _ _) (by simp) (by simp)

theorem State.announced_only (s : State) (on : Bool) (cause : HaltCause) :
    s.changesOnly (s.announced on cause) [.haltSet, .peers, .tx, .line, .tallies] :=
  (s.flag_only on).then (State.offer_only _ _) (by simp) (by simp)

theorem State.inHaltSet_announced (s : State) (on : Bool) (cause : HaltCause) {k : Nat} (station : k < 24) :
    (s.announced on cause).inHaltSet k = if k = s.strapId.toNat then on else s.inHaltSet k := by
  rw [State.inHaltSet, State.announced, State.offer_only _ _ .haltSet (by simp), State.ownFlag_only _ _ .haltSet (by simp)]
  exact s.inHaltSet_setHalt _ _ _ station

/-- An offer that a transmitter takes without beginning joins the end of the urgent queue, and nothing is counted (R51). -/
theorem State.offer_of_taken {s : State} (takes : s.takesOffers) (u : Urgent) :
    s.offer u = { s with tx := { s.tx with urgent := s.tx.urgent ++ [{ content := u, errors := 0 }] } } := by
  obtain ⟨operating, loud, room, busy⟩ := takes
  have line : (s.enqueueUrgent u).line = s.line := s.enqueueUrgent_only u .line (by simp)
  rw [State.offer, State.begin_of_busy _ (by rwa [line]), State.enqueueUrgent_of_room operating loud room]

theorem State.takesOffers_of_same {s t : State} {ps : List Part} (only : s.changesOnly t ps)
    (apart : ∀ p ∈ [Part.mode, .tx, .line], p ∉ ps) (takes : s.takesOffers) : t.takesOffers := by
  unfold State.takesOffers
  rw [only .mode (apart _ (by simp)), only .tx (apart _ (by simp)), only .line (apart _ (by simp))]
  exact takes

theorem State.announced_of_taken {s : State} (takes : s.takesOffers) (on : Bool) (cause : HaltCause) :
    (s.announced on cause).tx = { s.tx with urgent := s.tx.urgent ++ [{ content := .halt on cause, errors := 0 }] }
      ∧ s.records (s.announced on cause) [] [] := by
  have flagged := s.flag_only on
  have offered := State.offer_of_taken (State.takesOffers_of_same flagged (by simp) takes) (.halt on cause)
  unfold State.announced
  rw [offered, flagged .tx (by simp)]
  exact ⟨rfl, flagged.records (by simp) (by simp) _ _⟩

/-! ## HALT-ASSERT and HALT-RELEASE (R74) -/

theorem State.answer_ok_only (s : State) : s.changesOnly (s.answer .ok []) [.response, .outgoing] := s.answer_only .ok []

/-- A command that sets or clears OPERATOR, where that leaves the own halt as it is and where it changes it. -/
theorem State.setOperator_of_same {s : State} {on : Bool} (same : State.ownHalt { s with operatorHalt := on } = s.ownHalt) :
    s.setOperator on = { s with operatorHalt := on } := State.ownHaltChanged_of_same _ same

theorem State.setOperator_of_change {s : State} {on : Bool} (change : State.ownHalt { s with operatorHalt := on } ≠ s.ownHalt) :
    s.setOperator on = (State.announced { s with operatorHalt := on } (State.ownHalt { s with operatorHalt := on }) .operator).settleMode :=
  State.ownHaltChanged_of_change _ change

theorem State.setOperatorHalt_only (s : State) (on : Bool) : s.changesOnly { s with operatorHalt := on } [.operatorHalt] := by
  intro p hp; cases p <;> first | rfl | simp at hp

/-- What a change of OPERATOR comes to, said once for setting and clearing (R74, R75, R77). -/
theorem State.setOperator_effect (s : State) (on : Bool) :
    (s.setOperator on).operatorHalt = on ∧ (s.setOperator on).ownHalt = State.ownHalt { s with operatorHalt := on }
      ∧ ((s.setOperator on).ownHalt = s.ownHalt → s.changesOnly (s.setOperator on) [.operatorHalt])
      ∧ ((s.setOperator on).ownHalt ≠ s.ownHalt →
          (∀ k, k < 24 → (s.setOperator on).inHaltSet k = if k = s.strapId.toNat then (s.setOperator on).ownHalt else s.inHaltSet k)
          ∧ (s.setOperator on).mode = (if s.mode = .setup then .setup else if (s.setOperator on).haltSet = 0 then .run else .held)
          ∧ (s.takesOffers → (s.setOperator on).tx.urgent
              = s.tx.urgent ++ [{ content := .halt (s.setOperator on).ownHalt .operator, errors := 0 }])) := by
  generalize isSet : ({ s with operatorHalt := on } : State) = x
  have xOnly : s.changesOnly x [.operatorHalt] := isSet ▸ s.setOperatorHalt_only on
  have xOn : x.operatorHalt = on := isSet ▸ rfl
  by_cases same : x.ownHalt = s.ownHalt
  · have whole : s.setOperator on = x := by rw [State.setOperator_of_same (isSet ▸ same), isSet]
    rw [whole]
    exact ⟨xOn, rfl, fun _ => xOnly, fun change => absurd same change⟩
  · have whole : s.setOperator on = (x.announced x.ownHalt .operator).settleMode := by
      rw [State.setOperator_of_change (isSet ▸ same), isSet]
    have announced := x.announced_only x.ownHalt .operator
    have settled := (x.announced x.ownHalt .operator).settleMode_only
    have own : (s.setOperator on).ownHalt = x.ownHalt := by
      rw [whole, State.ownHalt_of_same settled (by simp), State.ownHalt_of_same announced (by simp)]
    rw [own]
    refine ⟨?_, rfl, fun kept => absurd kept same, fun _ => ⟨fun k station => ?_, ?_, fun takes => ?_⟩⟩
    · rw [whole, settled .operatorHalt (by simp), announced .operatorHalt (by simp), xOn]
    · rw [whole, State.inHaltSet, settled .haltSet (by simp)]
      refine (x.inHaltSet_announced _ _ station).trans ?_
      rw [xOnly .strapId (by simp), State.inHaltSet, xOnly .haltSet (by simp)]
      rfl
    · rw [whole, State.settleMode_mode, settled .haltSet (by simp), announced .mode (by simp), xOnly .mode (by simp)]
    · rw [whole, settled .tx (by simp),
        (State.announced_of_taken (State.takesOffers_of_same xOnly (by simp) takes) _ _).1, xOnly .tx (by simp)]

theorem haltAssert_sets {s : State} (out : s.inReset = false) : exec .haltAssert s = .next ((s.setOperator true).answer .ok []) := by
  change execHaltAssert s = _
  exact s.act_out _ out

theorem haltRelease_clears {s : State} (out : s.inReset = false) : exec .haltRelease s = .next ((s.setOperator false).answer .ok []) := by
  change execHaltRelease s = _
  exact s.act_out _ out

/-- Settles O37: OPERATOR is set or cleared, and what follows depends on whether the own halt changes. -/
theorem operatorHaltsAndReleases : Obligations.OperatorHaltsAndReleases := by
  intro s out station touched
  refine ⟨⟨_, haltAssert_sets out, ?_⟩, _, haltRelease_clears out, ?_⟩
  · obtain ⟨isOn, own, kept, changed⟩ := s.setOperator_effect true
    have asserted : (s.setOperator true).ownHalt = true := own.trans (by simp [State.ownHalt])
    have only := s.setOperator_only true
    generalize s.setOperator true = x at *
    have answered := x.answer_ok_only
    refine ⟨isOn, rfl, rfl, asserted, (only.mono (by simp [touched])).trans (answered.mono (by simp [touched])), fun released => ?_,
      fun before => ?_⟩
    · obtain ⟨inSet, mode, offered⟩ := changed (by rw [asserted, released]; decide)
      rw [asserted] at inSet offered
      have held : x.haltSet ≠ 0 := State.haltSet_ne_zero ((inSet _ station).trans (if_pos rfl))
      rw [if_neg held] at mode
      refine ⟨fun k below => ?_, fun run => ?_, fun notRun => ?_, fun operating loud room busy => offered ⟨operating, loud, room, busy⟩⟩
      · refine (inSet k below).trans ?_
        by_cases same : k = s.strapId.toNat <;> simp [same]
      · exact mode.trans (if_neg (by simp [run]))
      · refine mode.trans ?_
        cases before : s.mode with
        | setup => rfl
        | run => exact absurd before notRun
        | held => rfl
    · exact ((kept (by rw [asserted, before])).mono (by simp)).trans (answered.mono (by simp))
  · obtain ⟨isOff, -, kept, changed⟩ := s.setOperator_effect false
    have only := s.setOperator_only false
    generalize s.setOperator false = x at *
    have answered := x.answer_ok_only
    have own : (x.answer .ok []).ownHalt = x.ownHalt := rfl
    refine ⟨isOff, rfl, rfl, (only.mono (by simp [touched])).trans (answered.mono (by simp [touched])), fun before released => ?_,
      fun same => ?_⟩
    · rw [own] at released
      obtain ⟨inSet, mode, offered⟩ := changed (by rw [released, before]; decide)
      rw [released] at inSet offered
      refine ⟨fun k below => ?_, fun held empty => ?_, fun operating loud room busy => offered ⟨operating, loud, room, busy⟩⟩
      · refine (inSet k below).trans ?_
        by_cases same : k = s.strapId.toNat <;> simp [same]
      · have none : x.haltSet = 0 := empty
        refine mode.trans ?_
        rw [if_neg (by simp [held]), if_pos none]
    · exact ((kept (same.trans own).symm).mono (by simp)).trans (answered.mono (by simp))

end Sys2Proof.Machine

/-! PROOF. The monitor unit (sections 4.4 and 4.5): what one change of an own cause comes to, what door and stop come to together, and
what a sample leaves. -/

namespace Sys2Proof.Machine

/-! ## An urgent offer discards no sighting (R51, R53) -/

/-- With an urgent entry waiting no sighting is looked at. -/
theorem State.begin_records_of_urgent {s : State} (urgent : s.tx.urgent ≠ []) (xs : List Tally) (fs : List Flag) :
    s.records s.begin xs fs := by
  obtain ⟨e, rest, queue⟩ := List.exists_cons_of_ne_nil urgent
  refine .ite _ ?_ (.refl _ _ _)
  rw [State.sendHead_of_urgent (s := s.latch) queue]
  exact (s.latch_only.records (by simp) (by simp) _ _).trans ((State.send_only _ _ _).records (by simp) (by simp) _ _)

theorem State.offer_records_exact (s : State) (u : Urgent) : s.records (s.offer u) [.urgentDrop, .muteDrop] [] := by
  refine (s.enqueueUrgent_records u).trans ?_
  change (s.enqueueUrgent u).records (s.enqueueUrgent u).begin _ _
  by_cases silent : s.silent
  · have quiet : (s.enqueueUrgent u).silent := by
      have tx : (s.enqueueUrgent u).tx.mute = s.tx.mute := by
        rcases s.enqueueUrgent_tx u with same | ⟨-, -, same⟩ <;> rw [same]
      unfold State.silent
      rw [s.enqueueUrgent_only u .mode (by simp), tx]
      exact silent
    rw [State.begin_of_silent quiet]
    exact .refl _ _ _
  · obtain ⟨operating, loud⟩ := not_or.mp silent
    have isLoud : s.tx.mute = false := by simpa using loud
    refine State.begin_records_of_urgent ?_ _ _
    by_cases room : s.tx.urgent.length < 8
    · rw [State.enqueueUrgent_of_room operating isLoud room]
      simp
    · rw [State.enqueueUrgent_of_full operating isLoud (Nat.not_lt.mp room)]
      rintro empty
      have : s.tx.urgent = [] := empty
      simp [this] at room

theorem State.announced_records_exact (s : State) (on : Bool) (cause : HaltCause) :
    s.records (s.announced on cause) [.urgentDrop, .muteDrop] [] :=
  ((s.flag_only on).records (by simp) (by simp) _ _).trans (State.offer_records_exact _ _)

/-! ## One own cause (R74, R75, R77) -/

/-- An own cause passed on by the monitor. -/
def State.causeSet (s : State) (m : Monitor) (cause : HaltCause) : State := { s with monitor := m }.ownHaltChanged s.ownHalt cause

theorem State.setDoor_eq (s : State) (v : Bool) : s.setDoor v = s.causeSet { s.monitor with doorOpen := v } .door := rfl

theorem State.setStop_eq (s : State) (v : Bool) : s.setStop v = s.causeSet { s.monitor with stopRequested := v } .stop := rfl

theorem State.setMonitor_same (s : State) {m : Monitor} (same : m = s.monitor) : { s with monitor := m } = s := by rw [same]

theorem State.setDoor_of_same {s : State} {v : Bool} (same : v = s.monitor.doorOpen) : s.setDoor v = s := by
  have whole : ({ s with monitor := { s.monitor with doorOpen := v } } : State) = s := s.setMonitor_same (by rw [same])
  rw [State.setDoor, whole]
  exact State.ownHaltChanged_of_same _ rfl

theorem State.setStop_of_same {s : State} {v : Bool} (same : v = s.monitor.stopRequested) : s.setStop v = s := by
  have whole : ({ s with monitor := { s.monitor with stopRequested := v } } : State) = s := s.setMonitor_same (by rw [same])
  rw [State.setStop, whole]
  exact State.ownHaltChanged_of_same _ rfl

/-- The tallies that a change of the own halt may move. -/
abbrev haltTallies : List Tally := .urgentDrop :: .muteDrop :: heldTallies

/-- What one change of an own cause comes to. -/
structure State.HaltEffect (x z : State) (cause : HaltCause) : Prop where
  only : x.changesOnly z conditionParts
  records : x.records z haltTallies [.held]
  kept : z.ownHalt = x.ownHalt → x.changesOnly z [.monitor]
  inSetup : x.mode = .setup → x.changesOnly z [.monitor, .haltSet]
  operating : z.mode = .setup ↔ x.mode = .setup
  enters : x.mode = .run → z.mode = .held → x.counts z .held 1 ∧ z.flagSet .held
  stays : x.mode ≠ .run ∨ z.mode ≠ .held → z.tally .held = x.tally .held ∧ z.flagSet .held = x.flagSet .held
  follows : z.ownHalt ≠ x.ownHalt → z.mode = .held → z.haltSet ≠ 0
  holds : z.ownHalt = true → x.mode = .held → x.haltSet ≠ 0 → z.mode = .held
  inSet : z.ownHalt ≠ x.ownHalt → ∀ k, k < 24 → z.inHaltSet k = if k = x.strapId.toNat then z.ownHalt else x.inHaltSet k
  offers : x.takesOffers → z.ownHalt ≠ x.ownHalt →
    z.tx = { x.tx with urgent := x.tx.urgent ++ [{ content := .halt z.ownHalt cause, errors := 0 }] }
      ∧ z.tally .urgentDrop = x.tally .urgentDrop ∧ z.tally .muteDrop = x.tally .muteDrop

/-- In SETUP a change of the own halt moves the halt set alone. -/
theorem State.announced_of_setup {s : State} (setup : s.mode = .setup) (on : Bool) (cause : HaltCause) :
    s.announced on cause = s.setHalt s.strapId.toNat on := by
  have mode : (s.setHalt s.strapId.toNat on).mode = .setup := (s.setHalt_only _ _ .mode (by simp)).trans setup
  have flag : (s.setHalt s.strapId.toNat on).ownFlag on = s.setHalt s.strapId.toNat on := by
    simp [State.ownFlag, State.operating, mode]
  rw [State.announced, flag, State.offer_of_setup mode]

/-- An id put into the halt set leaves no empty set where there was none. -/
theorem State.setHalt_ne_zero {s : State} (id : Nat) (held : s.haltSet ≠ 0) : (s.setHalt id true).haltSet ≠ 0 := by
  intro empty
  have both : s.haltSet ||| BitVec.twoPow 24 id = 0 := empty
  exact held (BitVec.or_eq_zero_iff.mp both).1

/-- A change of the own halt, its frame and the station state set again. -/
theorem State.announced_effect (x : State) (m : Monitor) (cause : HaltCause)
    (change : State.ownHalt { x with monitor := m } ≠ x.ownHalt) : x.HaltEffect (x.causeSet m cause) cause := by
  have whole : x.causeSet m cause = _ := State.ownHaltChanged_of_change cause change
  rw [whole]
  generalize isSet : ({ x with monitor := m } : State) = y at *
  have yOnly : x.changesOnly y [.monitor] := isSet ▸ x.setMonitor_only m
  have wOnly := y.announced_only y.ownHalt cause
  have wRecords := y.announced_records_exact y.ownHalt cause
  have wTaken := fun takes => State.announced_of_taken (s := y) takes y.ownHalt cause
  have wSet : ∀ k, k < 24 → _ := fun k station => y.inHaltSet_announced y.ownHalt cause (k := k) station
  have wSetup := fun setup => State.announced_of_setup (s := y) setup y.ownHalt cause
  have wHeld : y.ownHalt = true → x.haltSet ≠ 0 → (y.announced y.ownHalt cause).haltSet ≠ 0 := by
    intro on held
    rw [State.announced, State.offer_only _ _ .haltSet (by simp), State.ownFlag_only _ _ .haltSet (by simp), on]
    exact State.setHalt_ne_zero _ (by rwa [yOnly .haltSet (by simp)])
  generalize y.announced y.ownHalt cause = w at *
  have zOnly := w.settleMode_only
  have mode : w.mode = x.mode := (wOnly .mode (by simp)).trans (yOnly .mode (by simp))
  have modeAfter := w.settleMode_mode
  have own : w.settleMode.ownHalt = y.ownHalt := by
    rw [State.ownHalt_of_same zOnly (by simp), State.ownHalt_of_same wOnly (by simp)]
  have fromX : x.records w [.urgentDrop, .muteDrop] [] := (yOnly.records (by simp) (by simp) _ _).trans wRecords
  have heldKept : w.tally .held = x.tally .held ∧ w.flagSet .held = x.flagSet .held :=
    ⟨fromX.1 .held (by simp), fromX.2 .held (by simp)⟩
  rw [mode] at modeAfter
  refine ⟨?_, ?_, fun same => absurd (own ▸ same) change, fun setup => ?_, ?_, fun run held => ?_, fun quiet => ?_, fun _ held => ?_,
    fun on held set => ?_, fun _ k station => ?_, fun takes _ => ?_⟩
  · exact (yOnly.then wOnly (rs := conditionParts) (by simp) (by simp)).trans (zOnly.mono (by simp))
  · exact (fromX.mono (by simp) (by simp)).trans (w.settleMode_records.mono (by simp) (by simp))
  · have wSetHalt := wSetup ((yOnly .mode (by simp)).trans setup)
    have still : w.settleMode = w := by
      unfold State.settleMode
      rw [mode, setup]
    rw [still, wSetHalt]
    exact yOnly.then (y.setHalt_only _ _) (by simp) (by simp)
  · rw [modeAfter]
    constructor
    · intro setup
      by_contra operating
      rw [if_neg operating] at setup
      split at setup <;> cases setup
    · intro setup
      rw [if_pos setup]
  · rw [modeAfter, if_neg (by simp [run])] at held
    have set : w.haltSet ≠ 0 := by
      intro empty
      rw [if_pos empty] at held
      cases held
    rw [State.settleMode_of_entering (mode.trans run) set]
    exact ⟨fromX.counts w.enterHeld_counts (by simp), w.enterHeld_flag⟩
  · have still : w.mode ≠ .run ∨ w.haltSet = 0 := by
      rcases quiet with notRun | notHeld
      · exact .inl (by rwa [mode])
      · by_cases run : w.mode = .run
        · refine .inr (by_contra fun set => notHeld ?_)
          rw [modeAfter, ← mode, run, if_neg (by simp), if_neg set]
        · exact .inl run
    have alone := (State.settleMode_only_of_quiet still).records (by simp) (by simp) [] []
    exact ⟨(alone.1 .held (by simp)).trans heldKept.1, (alone.2 .held (by simp)).trans heldKept.2⟩
  · rw [zOnly .haltSet (by simp)]
    intro empty
    rw [modeAfter, if_pos empty] at held
    split at held <;> cases held
  · rw [modeAfter, held, if_neg (by simp), if_neg (wHeld (own ▸ on) set)]
  · rw [State.inHaltSet, zOnly .haltSet (by simp), own]
    refine (wSet k station).trans ?_
    rw [yOnly .strapId (by simp), State.inHaltSet, yOnly .haltSet (by simp)]
    rfl
  · obtain ⟨tx, counted⟩ := wTaken (State.takesOffers_of_same yOnly (by simp) takes)
    have settled := w.settleMode_records
    have counted := (yOnly.records (by simp) (by simp) [] []).trans counted
    rw [zOnly .tx (by simp), tx, own, yOnly .tx (by simp)]
    exact ⟨rfl, (settled.1 .urgentDrop (by simp)).trans (counted.1 .urgentDrop (by simp)),
      (settled.1 .muteDrop (by simp)).trans (counted.1 .muteDrop (by simp))⟩

theorem State.causeSet_ownHalt (x : State) (m : Monitor) (cause : HaltCause) :
    (x.causeSet m cause).ownHalt = State.ownHalt { x with monitor := m } :=
  State.ownHalt_of_same (State.ownHaltChanged_only _ _ _) (by simp)

theorem State.causeSet_monitor (x : State) (m : Monitor) (cause : HaltCause) : (x.causeSet m cause).monitor = m :=
  State.ownHaltChanged_only _ _ _ .monitor (by simp)

theorem State.causeSet_effect (x : State) (m : Monitor) (cause : HaltCause) : x.HaltEffect (x.causeSet m cause) cause := by
  by_cases same : State.ownHalt { x with monitor := m } = x.ownHalt
  · have whole : x.causeSet m cause = { x with monitor := m } := State.ownHaltChanged_of_same _ same
    have only : x.changesOnly (x.causeSet m cause) [.monitor] := whole ▸ x.setMonitor_only m
    have none := only.records (by simp) (by simp) [] []
    have own := (x.causeSet_ownHalt m cause).trans same
    have mode := only .mode (by simp)
    refine ⟨only.mono (by simp), none.mono (by simp) (by simp), fun _ => only, fun _ => only.mono (by simp), by rw [mode],
      fun run held => ?_, fun _ => ⟨none.1 .held (by simp), none.2 .held (by simp)⟩, fun change => absurd own change,
      fun _ held _ => mode.trans held, fun change => absurd own change, fun _ change => absurd own change⟩
    have : x.mode = .held := mode.symm.trans held
    rw [run] at this
    cases this
  · exact x.announced_effect m cause same

/-! ## Door and stop together (R75, log 4) -/

/-- What door and stop passed on come to; `both` when they change together. -/
structure State.DoorStopEffect (x z : State) (both : Prop) (isOpen requested : Bool) : Prop where
  only : x.changesOnly z conditionParts
  records : x.records z haltTallies [.held]
  monitor : z.monitor = { x.monitor with doorOpen := isOpen, stopRequested := requested }
  operating : z.mode = .setup ↔ x.mode = .setup
  kept : z.ownHalt = x.ownHalt → ¬ both → x.changesOnly z [.monitor]
  inSetup : x.mode = .setup → x.changesOnly z [.monitor, .haltSet, .freeCount]
  enters : x.mode = .run → z.mode = .held → x.counts z .held 1 ∧ z.flagSet .held
  stays : x.mode ≠ .run ∨ z.mode ≠ .held → ¬ both → z.tally .held = x.tally .held ∧ z.flagSet .held = x.flagSet .held
  once : (z.tally .held = x.tally .held ∧ z.flagSet .held = x.flagSet .held)
    ∨ (x.counts z .held 1 ∧ z.flagSet .held ∧ x.mode ≠ .setup ∧ z.mode = .held)
  inSet : z.ownHalt ≠ x.ownHalt → ∀ k, k < 24 → z.inHaltSet k = if k = x.strapId.toNat then z.ownHalt else x.inHaltSet k
  offers : x.takesOffers → z.ownHalt ≠ x.ownHalt → ∃ cause,
    z.tx = { x.tx with urgent := x.tx.urgent ++ [{ content := .halt z.ownHalt cause, errors := 0 }] }
      ∧ ((cause = .door ∧ isOpen ≠ x.monitor.doorOpen) ∨ (cause = .stop ∧ requested ≠ x.monitor.stopRequested))
      ∧ z.tally .urgentDrop = x.tally .urgentDrop ∧ z.tally .muteDrop = x.tally .muteDrop

/-- Where at most one of the two changes, one cause is passed on. -/
theorem State.HaltEffect.doorStop {x z : State} {cause : HaltCause} {both : Prop} {isOpen requested : Bool}
    (effect : x.HaltEffect z cause) (monitor : z.monitor = { x.monitor with doorOpen := isOpen, stopRequested := requested })
    (changed : z.ownHalt ≠ x.ownHalt →
      (cause = .door ∧ isOpen ≠ x.monitor.doorOpen) ∨ (cause = .stop ∧ requested ≠ x.monitor.stopRequested)) :
    x.DoorStopEffect z both isOpen requested where
  only := effect.only
  records := effect.records
  monitor := monitor
  operating := effect.operating
  kept same _ := effect.kept same
  inSetup setup := (effect.inSetup setup).mono (by simp)
  enters := effect.enters
  stays quiet _ := effect.stays quiet
  once := by
    by_cases entering : x.mode = .run ∧ z.mode = .held
    · obtain ⟨run, held⟩ := entering
      obtain ⟨counts, flag⟩ := effect.enters run held
      exact .inr ⟨counts, flag, by simp [run], held⟩
    · exact .inl (effect.stays (by tauto))
  inSet := effect.inSet
  offers takes change := by
    obtain ⟨tx, urgent, mute⟩ := effect.offers takes change
    exact ⟨cause, tx, changed change, urgent, mute⟩

/-- Where both change, the one taken second asserts the own halt if each of them changes it. -/
theorem State.HaltEffect.twice {x y z : State} {first second : HaltCause} {both : Prop} {isOpen requested : Bool} (isBoth : both)
    (one : x.HaltEffect y first) (two : y.HaltEffect z second)
    (monitor : z.monitor = { x.monitor with doorOpen := isOpen, stopRequested := requested })
    (asserts : y.ownHalt ≠ x.ownHalt → z.ownHalt ≠ y.ownHalt → z.ownHalt = true)
    (changed : ∀ c, c = first ∨ c = second →
      (c = .door ∧ isOpen ≠ x.monitor.doorOpen) ∨ (c = .stop ∧ requested ≠ x.monitor.stopRequested)) :
    x.DoorStopEffect z both isOpen requested := by
  have modeOf (kept : y.ownHalt = x.ownHalt) : y.mode = x.mode := one.kept kept .mode (by simp)
  have once : (z.tally .held = x.tally .held ∧ z.flagSet .held = x.flagSet .held)
      ∨ (x.counts z .held 1 ∧ z.flagSet .held ∧ x.mode ≠ .setup ∧ z.mode = .held) := by
    by_cases entered : x.mode = .run ∧ y.mode = .held
    · obtain ⟨run, held⟩ := entered
      obtain ⟨counts, flag⟩ := one.enters run held
      have turned : y.ownHalt ≠ x.ownHalt := fun same => by
        rw [modeOf same, run] at held
        cases held
      obtain ⟨tally, still⟩ := two.stays (.inl (by simp [held]))
      refine .inr ⟨?_, still.trans flag, by simp [run], ?_⟩
      · rw [State.counts, tally]
        exact counts
      · by_cases again : z.ownHalt = y.ownHalt
        · exact (two.kept again .mode (by simp)).trans held
        · exact two.holds (asserts turned again) held (one.follows turned held)
    · obtain ⟨tally, flag⟩ := one.stays (by tauto)
      by_cases entering : y.mode = .run ∧ z.mode = .held
      · obtain ⟨run, held⟩ := entering
        obtain ⟨counts, raised⟩ := two.enters run held
        refine .inr ⟨?_, raised, fun setup => ?_, held⟩
        · rw [State.counts, ← tally]
          exact counts
        · rw [one.operating.mpr setup] at run
          cases run
      · obtain ⟨tally', flag'⟩ := two.stays (by tauto)
        exact .inl ⟨tally'.trans tally, flag'.trans flag⟩
  refine ⟨one.only.trans two.only, one.records.trans two.records, monitor, two.operating.trans one.operating, fun _ single => absurd isBoth single, fun setup => ?_,
    fun run held => ?_, fun _ single => absurd isBoth single, once, fun change k station => ?_, fun takes change => ?_⟩
  · exact (one.inSetup setup).then (two.inSetup (one.operating.mpr setup)) (by simp) (by simp)
  · by_cases entered : y.mode = .held
    · obtain ⟨counts, flag⟩ := one.enters run entered
      obtain ⟨tally, still⟩ := two.stays (.inl (by simp [entered]))
      refine ⟨?_, still.trans flag⟩
      rw [State.counts, tally]
      exact counts
    · obtain ⟨tally, flag⟩ := one.stays (.inr entered)
      have running : y.mode = .run := by
        have notSetup : y.mode ≠ .setup := fun setup => by
          rw [one.operating.mp setup] at run
          cases run
        cases mode : y.mode with
        | setup => exact absurd mode notSetup
        | run => rfl
        | held => exact absurd mode entered
      obtain ⟨counts, raised⟩ := two.enters running held
      refine ⟨?_, raised⟩
      rw [State.counts, ← tally]
      exact counts
  · by_cases kept : y.ownHalt = x.ownHalt
    · have same := one.kept kept
      rw [two.inSet (by rwa [kept]) k station, same .strapId (by simp), State.inHaltSet, State.inHaltSet, same .haltSet (by simp)]
    · have again : z.ownHalt = y.ownHalt := by
        cases hx : x.ownHalt <;> cases hy : y.ownHalt <;> cases hz : z.ownHalt <;> simp_all
      have same := two.kept again
      rw [State.inHaltSet, same .haltSet (by simp), again]
      exact one.inSet kept k station
  · by_cases kept : y.ownHalt = x.ownHalt
    · have same := one.kept kept
      have none := same.records (by simp) (by simp) [] []
      obtain ⟨tx, urgent, mute⟩ := two.offers (State.takesOffers_of_same same (by simp) takes) (by rwa [kept])
      refine ⟨second, ?_, changed second (.inr rfl), urgent.trans (none.1 _ (by simp)), mute.trans (none.1 _ (by simp))⟩
      rw [tx, same .tx (by simp)]
    · have again : z.ownHalt = y.ownHalt := by
        cases hx : x.ownHalt <;> cases hy : y.ownHalt <;> cases hz : z.ownHalt <;> simp_all
      have same := two.kept again
      have none := same.records (by simp) (by simp) [] []
      obtain ⟨tx, urgent, mute⟩ := one.offers takes kept
      refine ⟨first, ?_, changed first (.inl rfl), (none.1 _ (by simp)).trans urgent, (none.1 _ (by simp)).trans mute⟩
      rw [same .tx (by simp), tx, again]

/-- The count of free picks is no part of what door and stop come to. -/
theorem State.DoorStopEffect.of_freeCount {x z : State} {n : Nat} {both : Prop} {isOpen requested : Bool} (isBoth : both)
    (effect : State.DoorStopEffect { x with freeCount := n } z both isOpen requested) : x.DoorStopEffect z both isOpen requested where
  only := State.changesOnly.then (x.setFreeCount_only n) effect.only (by simp) (fun _ h => h)
  records := effect.records
  monitor := effect.monitor
  operating := effect.operating
  kept _ single := absurd isBoth single
  inSetup setup := (x.setFreeCount_only n).then (effect.inSetup setup) (by simp) (by simp)
  enters := effect.enters
  stays _ single := absurd isBoth single
  once := effect.once
  inSet := effect.inSet
  offers := effect.offers

theorem State.setDoor_ownHalt (x : State) (v : Bool) : (x.setDoor v).ownHalt = (v || x.monitor.stopRequested || x.operatorHalt) :=
  x.causeSet_ownHalt _ _

theorem State.setStop_ownHalt (x : State) (v : Bool) : (x.setStop v).ownHalt = (x.monitor.doorOpen || v || x.operatorHalt) :=
  x.causeSet_ownHalt _ _

theorem State.setDoor_monitor (x : State) (v : Bool) : (x.setDoor v).monitor = { x.monitor with doorOpen := v } :=
  x.causeSet_monitor _ _

theorem State.setStop_monitor (x : State) (v : Bool) : (x.setStop v).monitor = { x.monitor with stopRequested := v } :=
  x.causeSet_monitor _ _

theorem State.setDoor_effect (x : State) (v : Bool) : x.HaltEffect (x.setDoor v) .door := x.causeSet_effect _ _

theorem State.setStop_effect (x : State) (v : Bool) : x.HaltEffect (x.setStop v) .stop := x.causeSet_effect _ _

/-- Of two causes that change against each other the second asserts, if each in turn changes the own halt. -/
theorem second_asserts : ∀ was now wasOther nowOther operator : Bool, now ≠ was → nowOther ≠ wasOther →
    (now || wasOther || operator) ≠ (was || wasOther || operator) →
    (now || nowOther || operator) ≠ (now || wasOther || operator) → (now || nowOther || operator) = true := by decide

theorem State.setDoorStop_effect (x : State) (isOpen requested : Bool) :
    x.DoorStopEffect (x.setDoorStop isOpen requested)
      (isOpen ≠ x.monitor.doorOpen ∧ requested ≠ x.monitor.stopRequested) isOpen requested := by
  by_cases both : isOpen ≠ x.monitor.doorOpen ∧ requested ≠ x.monitor.stopRequested
  · obtain ⟨door, stop⟩ := both
    have together : (isOpen != x.monitor.doorOpen && requested != x.monitor.stopRequested) = true := by simp [door, stop]
    unfold State.setDoorStop
    dsimp only
    rw [if_pos together]
    generalize x.freeCount + 1 = n
    have changed : ∀ c, c = HaltCause.door ∨ c = .stop →
        (c = .door ∧ isOpen ≠ x.monitor.doorOpen) ∨ (c = .stop ∧ requested ≠ x.monitor.stopRequested) := by
      rintro c (rfl | rfl)
      · exact .inl ⟨rfl, door⟩
      · exact .inr ⟨rfl, stop⟩
    split
    · refine .of_freeCount (n := n) ⟨door, stop⟩ ?_
      have first := State.setDoor_monitor { x with freeCount := n } isOpen
      have operator : (State.setDoor { x with freeCount := n } isOpen).operatorHalt = x.operatorHalt :=
        State.setDoor_only _ _ .operatorHalt (by simp)
      refine State.HaltEffect.twice ⟨door, stop⟩ (State.setDoor_effect _ _) (State.setStop_effect _ _) ?_ (fun one two => ?_) changed
      · rw [State.setStop_monitor, first]
      · rw [State.setStop_ownHalt, operator, first] at two ⊢
        rw [State.setDoor_ownHalt] at one two
        exact second_asserts _ _ _ _ _ door stop one two
    · refine .of_freeCount (n := n) ⟨door, stop⟩ ?_
      have first := State.setStop_monitor { x with freeCount := n } requested
      have operator : (State.setStop { x with freeCount := n } requested).operatorHalt = x.operatorHalt :=
        State.setStop_only _ _ .operatorHalt (by simp)
      refine State.HaltEffect.twice ⟨door, stop⟩ (State.setStop_effect _ _) (State.setDoor_effect _ _) ?_ (fun one two => ?_) fun c is => changed c is.symm
      · rw [State.setDoor_monitor, first]
      · rw [State.setDoor_ownHalt, operator, first] at two ⊢
        rw [State.setStop_ownHalt] at one two
        simp only [State.ownHalt] at one two
        rw [Bool.or_comm isOpen] at two ⊢
        rw [Bool.or_comm x.monitor.doorOpen, Bool.or_comm x.monitor.doorOpen] at one
        rw [Bool.or_comm x.monitor.doorOpen] at two
        exact second_asserts _ _ _ _ _ stop door one two
  · have together : ¬ (isOpen != x.monitor.doorOpen && requested != x.monitor.stopRequested) = true := by simpa using both
    unfold State.setDoorStop
    dsimp only
    rw [if_neg together]
    by_cases door : isOpen = x.monitor.doorOpen
    · rw [State.setDoor_of_same door]
      refine (x.setStop_effect _).doorStop ?_ fun change => .inr ⟨rfl, fun same => change ?_⟩
      · rw [State.setStop_monitor, door]
      · rw [State.setStop_of_same same]
    · have stop : requested = x.monitor.stopRequested := by
        by_contra other
        exact both ⟨door, other⟩
      have still : (x.setDoor isOpen).setStop requested = x.setDoor isOpen := State.setStop_of_same (by rw [State.setDoor_monitor, stop])
      rw [still]
      refine (x.setDoor_effect _).doorStop ?_ fun _ => .inl ⟨rfl, door⟩
      rw [State.setDoor_monitor, stop]

end Sys2Proof.Machine

/-! PROOF. A monitor sample (R80 to R84): debouncing, air and chute, door and stop, and the watch, one after another. -/

namespace Sys2Proof.Machine

/-! ## Debouncing (R80) -/

theorem acceptLevels_lane (sample last accepted : Byte) (i : Nat) (lane : i < 8) :
    (acceptLevels sample last accepted).getLsbD i = if sample.getLsbD i = last.getLsbD i then sample.getLsbD i else accepted.getLsbD i := by
  simp only [acceptLevels, BitVec.getLsbD_or, BitVec.getLsbD_and, BitVec.getLsbD_not, BitVec.getLsbD_xor, lane, decide_true,
    Bool.true_and]
  cases sample.getLsbD i <;> cases last.getLsbD i <;> simp

/-! ## Air and chute (R82, R83) -/

/-- A state that changes monitor and flags alone, and of the flags only those listed. -/
def State.notes (s t : State) (fs : List Flag) : Prop := s.changesOnly t [.monitor, .flags] ∧ s.records t [] fs

theorem State.setAir_notes (s : State) (low : Bool) : s.notes (s.setAir low) [.airLow] := by
  refine ⟨s.setAir_only low, ?_⟩
  unfold State.setAir
  have set := (s.setMonitor_only { s.monitor with airLow := low }).records (by simp) (by simp) [] [.airLow]
  exact .ite _ (set.trans (State.raise_records _ _ _)) set

theorem State.setAir_monitor (s : State) (low : Bool) : (s.setAir low).monitor = { s.monitor with airLow := low } := by
  unfold State.setAir
  dsimp only
  split <;> rfl

theorem State.setAir_flag (s : State) (low : Bool) :
    (s.setAir low).flagSet .airLow = (s.flagSet .airLow || (!s.monitor.airLow && low)) := by
  unfold State.setAir
  dsimp only
  split
  next turned =>
    rw [State.raise_flagSet, Bool.and_comm, turned, Bool.or_true]
  next steady =>
    have : (low && !s.monitor.airLow) = false := by simpa using steady
    rw [Bool.and_comm, this, Bool.or_false]
    rfl

theorem State.setChute_notes (s : State) (notReady : Bool) : s.notes (s.setChute notReady) [.chute] := by
  refine ⟨s.setChute_only notReady, ?_⟩
  unfold State.setChute
  have set := (s.setMonitor_only { s.monitor with chuteNotReady := notReady }).records (by simp) (by simp) [] [.chute]
  exact .ite _ (set.trans (State.raise_records _ _ _)) set

theorem State.setChute_monitor (s : State) (notReady : Bool) :
    (s.setChute notReady).monitor = { s.monitor with chuteNotReady := notReady } := by
  unfold State.setChute
  dsimp only
  split <;> rfl

theorem State.setChute_flag (s : State) (notReady : Bool) :
    (s.setChute notReady).flagSet .chute = (s.flagSet .chute || (!s.monitor.chuteNotReady && notReady)) := by
  unfold State.setChute
  dsimp only
  split
  next turned =>
    rw [State.raise_flagSet, Bool.and_comm, turned, Bool.or_true]
  next steady =>
    have : (notReady && !s.monitor.chuteNotReady) = false := by simpa using steady
    rw [Bool.and_comm, this, Bool.or_false]
    rfl

/-- Air and chute evaluated, door and stop not yet. -/
def State.airChute (s : State) : State :=
  (s.setAir (s.record.anyInput s.monitor.accepted .airOk false)).setChute (s.record.anyInput s.monitor.accepted .chuteReady false)

theorem State.evaluateConditions_eq (s : State) :
    s.evaluateConditions = s.airChute.setDoorStop (s.record.anyInput s.monitor.accepted .doorClosed false)
      (s.record.anyInput s.monitor.accepted .stopRequest true) := rfl

theorem State.airChute_notes (s : State) : s.notes s.airChute [.airLow, .chute] := by
  obtain ⟨airOnly, air⟩ := s.setAir_notes (s.record.anyInput s.monitor.accepted .airOk false)
  obtain ⟨chuteOnly, chute⟩ := State.setChute_notes (s.setAir (s.record.anyInput s.monitor.accepted .airOk false))
    (s.record.anyInput s.monitor.accepted .chuteReady false)
  exact ⟨airOnly.trans chuteOnly, (air.mono (by simp) (by simp)).trans (chute.mono (by simp) (by simp))⟩

theorem State.airChute_monitor (s : State) : s.airChute.monitor = { s.monitor with
    airLow := s.record.anyInput s.monitor.accepted .airOk false
    chuteNotReady := s.record.anyInput s.monitor.accepted .chuteReady false } := by
  rw [State.airChute, State.setChute_monitor, State.setAir_monitor]

theorem State.airChute_flags (s : State) :
    s.airChute.flagSet .airLow = (s.flagSet .airLow || (!s.monitor.airLow && s.airChute.monitor.airLow))
      ∧ s.airChute.flagSet .chute = (s.flagSet .chute || (!s.monitor.chuteNotReady && s.airChute.monitor.chuteNotReady)) := by
  rw [s.airChute_monitor]
  unfold State.airChute
  constructor
  · rw [(State.setChute_notes _ _).2.2 .airLow (by simp), State.setAir_flag]
  · rw [State.setChute_flag, State.setAir_monitor, (s.setAir_notes _).2.2 .chute (by simp)]

/-! ## The watch (R84) -/

theorem Record.watchMatches_iff (r : Record) (accepted : Byte) :
    r.watchMatches accepted = true
      ↔ ∀ i, i < 8 → r.watchMask.getLsbD i = true → r.inputTrue accepted i = r.watchPattern.getLsbD i := by
  simp only [Record.watchMatches, List.all_eq_true, List.mem_range]
  refine forall_congr' fun i => forall_congr' fun _ => ?_
  cases r.watchMask.getLsbD i <;> simp

/-- In operation the watch is evaluated (R84). -/
def State.watched (s : State) : State := if s.operating then s.evaluateWatch else s

theorem State.watched_of_setup {s : State} (setup : s.mode = .setup) : s.watched = s := if_neg (by simp [State.operating, setup])

theorem State.watched_of_operating {s : State} (operating : s.mode ≠ .setup) : s.watched = s.evaluateWatch :=
  if_pos (State.operating_of operating)

/-- A matching pattern, or one that has not matched before, leaves tallies and flags. -/
theorem State.evaluateWatch_of_match {s : State} (matches_ : s.record.watchMatches s.monitor.accepted = true) :
    s.evaluateWatch = { s with monitor := { s.monitor with watch := .matched } } := by
  unfold State.evaluateWatch
  rw [matches_]
  cases watch : s.monitor.watch with
  | waiting | unmatched => rfl
  | matched => exact (s.setMonitor_same (by rw [← watch])).symm

theorem State.evaluateWatch_of_miss {s : State} (misses : s.record.watchMatches s.monitor.accepted = false)
    (before : s.monitor.watch ≠ .matched) : s.evaluateWatch = s := by
  unfold State.evaluateWatch
  rw [misses]
  cases watch : s.monitor.watch with
  | waiting | unmatched => rfl
  | matched => exact absurd watch before

theorem State.evaluateWatch_of_leaving {s : State} (misses : s.record.watchMatches s.monitor.accepted = false)
    (before : s.monitor.watch = .matched) :
    s.evaluateWatch = (({ s with monitor := { s.monitor with watch := .unmatched } }).bump .watch).raise .watch := by
  unfold State.evaluateWatch
  rw [misses, before]

theorem State.evaluateWatch_records (s : State) : s.records s.evaluateWatch [.watch] [.watch] := by
  have set (w : WatchState) := (s.setMonitor_only { s.monitor with watch := w }).records (by simp) (by simp) [.watch] [.watch]
  cases matches_ : s.record.watchMatches s.monitor.accepted with
  | true => exact State.evaluateWatch_of_match matches_ ▸ set _
  | false =>
    by_cases before : s.monitor.watch = .matched
    · rw [State.evaluateWatch_of_leaving matches_ before]
      exact (set .unmatched).trans (State.bump_raise_records _ _ _)
    · rw [State.evaluateWatch_of_miss matches_ before]
      exact .refl _ _ _

theorem State.watched_frame (s : State) : s.changesOnly s.watched [.monitor, .tallies, .flags] ∧ s.records s.watched [.watch] [.watch]
    ∧ ∃ w, s.watched.monitor = { s.monitor with watch := w } := by
  unfold State.watched
  refine ⟨.ite _ s.evaluateWatch_only (.refl _ _), .ite _ s.evaluateWatch_records (.refl _ _ _), ?_⟩
  split
  · exact s.evaluateWatch_monitor
  · exact ⟨_, rfl⟩

/-! ## The command -/

theorem monitorSample_evaluates {levels : Byte} {s : State} (out : s.inReset = false)
    (fallen : atOrBefore s.monitor.sampleDue s.belt.timebase) :
    exec (.monitorSample levels) s = .next (s.sampleInputs levels).evaluateConditions.watched := by
  change execMonitorSample levels s = _
  refine (s.act_out _ out).trans ?_
  simp only [fallen, if_true]
  rfl

/-- Of tallies and flags that a step leaves, those of HELD among them. -/
theorem State.records.same {s t : State} {xs : List Tally} {fs : List Flag} (h : s.records t xs fs) {x : Tally} {f : Flag}
    (tally : x ∉ xs) (flag : f ∉ fs) : t.tally x = s.tally x ∧ t.flagSet f = s.flagSet f := ⟨h.1 x tally, h.2 f flag⟩

/-- The conditions as the accepted levels give them (R81). -/
def Record.conditions (r : Record) (m : Monitor) : Monitor :=
  { m with
    airLow := r.anyInput m.accepted .airOk false, doorOpen := r.anyInput m.accepted .doorClosed false
    chuteNotReady := r.anyInput m.accepted .chuteReady false, stopRequested := r.anyInput m.accepted .stopRequest true }

/-- An evaluation: air and chute with their flags, then door and stop passed on. -/
theorem State.evaluateConditions_effect (a : State) : ∃ c, a.changesOnly c [.monitor, .flags] ∧ a.records c [] [.airLow, .chute]
    ∧ c.monitor = { a.monitor with
        airLow := (a.record.conditions a.monitor).airLow, chuteNotReady := (a.record.conditions a.monitor).chuteNotReady }
    ∧ c.flagSet .airLow = (a.flagSet .airLow || (!a.monitor.airLow && (a.record.conditions a.monitor).airLow))
    ∧ c.flagSet .chute = (a.flagSet .chute || (!a.monitor.chuteNotReady && (a.record.conditions a.monitor).chuteNotReady))
    ∧ c.DoorStopEffect a.evaluateConditions
        ((a.record.conditions a.monitor).doorOpen ≠ c.monitor.doorOpen
          ∧ (a.record.conditions a.monitor).stopRequested ≠ c.monitor.stopRequested)
        (a.record.conditions a.monitor).doorOpen (a.record.conditions a.monitor).stopRequested := by
  obtain ⟨only, records⟩ := a.airChute_notes
  have monitor := a.airChute_monitor
  obtain ⟨air, chute⟩ := a.airChute_flags
  rw [monitor] at air chute
  exact ⟨a.airChute, only, records, monitor, air, chute, a.airChute.setDoorStop_effect _ _⟩

/-- The own halt reads door, stop and OPERATOR alone (R74). -/
theorem State.ownHalt_congr {s t : State} (door : t.monitor.doorOpen = s.monitor.doorOpen)
    (stop : t.monitor.stopRequested = s.monitor.stopRequested) (operator : t.operatorHalt = s.operatorHalt) : t.ownHalt = s.ownHalt := by
  rw [State.ownHalt, door, stop, operator]
  rfl

/-- Settles O39: sample, air and chute, door and stop, watch, each with what it leaves of the others. -/
theorem monitorSampleDebouncesAndEvaluates : Obligations.MonitorSampleDebouncesAndEvaluates := by
  intro levels s out fallen
  refine ⟨_, monitorSample_evaluates out fallen, ?_⟩
  have aOnly : s.changesOnly (s.sampleInputs levels) [.monitor] := s.setMonitor_only _
  have aMonitor : (s.sampleInputs levels).monitor = { s.monitor with
      sampleDue := s.monitor.sampleDue + 1000, lastSample := levels
      accepted := acceptLevels levels s.monitor.lastSample s.monitor.accepted } := rfl
  generalize s.sampleInputs levels = a at *
  have aRecords := aOnly.records (by simp) (by simp) [] []
  have dSound := a.evaluateConditions_conditionsSound
  obtain ⟨c, cOnly, cRecords, cMonitor, cAir, cChute, effect⟩ := a.evaluateConditions_effect
  generalize a.evaluateConditions = d at *
  have cOnly : s.changesOnly c [.monitor, .flags] := (aOnly.mono (by simp)).trans cOnly
  have cRecords : s.records c [] [.airLow, .chute] := (aRecords.mono (by simp) (by simp)).trans cRecords
  have cDoor : c.monitor.doorOpen = s.monitor.doorOpen := by rw [cMonitor, aMonitor]
  have cStop : c.monitor.stopRequested = s.monitor.stopRequested := by rw [cMonitor, aMonitor]
  have cWatch : c.monitor.watch = s.monitor.watch := by rw [cMonitor, aMonitor]
  have cOwn : c.ownHalt = s.ownHalt := State.ownHalt_congr cDoor cStop (cOnly .operatorHalt (by simp))
  have cMode : c.mode = s.mode := cOnly .mode (by simp)
  have record : a.record = s.record := aOnly .record (by simp)
  have dMonitor := effect.monitor
  rw [cMonitor, aMonitor, record] at dMonitor
  have dRecord : d.record = s.record := (effect.only .record (by simp)).trans (cOnly .record (by simp))
  rw [cDoor, cStop] at effect
  obtain ⟨tOnly, tRecords, v, tMonitor⟩ := d.watched_frame
  have tSound : d.watched.conditionsSound := by
    unfold State.conditionsSound at dSound ⊢
    rw [tMonitor, tOnly .record (by simp)]
    exact dSound
  have tOwn : d.watched.ownHalt = d.ownHalt := by
    refine State.ownHalt_congr ?_ ?_ (tOnly .operatorHalt (by simp)) <;> rw [tMonitor]
  have tDoor : d.watched.monitor.doorOpen = (a.record.conditions a.monitor).doorOpen := by rw [tMonitor, effect.monitor]
  have tStop : d.watched.monitor.stopRequested = (a.record.conditions a.monitor).stopRequested := by rw [tMonitor, effect.monitor]
  have tMode : d.watched.mode = d.mode := tOnly .mode (by simp)
  have tHaltSet : d.watched.haltSet = d.haltSet := tOnly .haltSet (by simp)
  have tTx : d.watched.tx = d.tx := tOnly .tx (by simp)
  have heldKept := tRecords.same (x := .held) (f := .held) (by simp) (by simp)
  have fromS := cRecords.same (x := .held) (f := .held) (by simp) (by simp)
  have all : s.records d.watched (.watch :: haltTallies) [.airLow, .chute, .watch, .held] :=
    ((cRecords.mono (by simp) (by simp)).trans (effect.records.mono (by simp) (by simp))).trans (tRecords.mono (by simp) (by simp))
  have heldCounts : ∀ n, c.counts d .held n → s.counts d.watched .held n := fun n counts =>
    (cRecords.counts counts (by simp)).then tRecords (by simp)
  refine ⟨by rw [tMonitor, dMonitor], by rw [tMonitor, dMonitor], fun i lane => ?_, tSound, ?_, ?_, ?_, ?_, fun change k station => ?_,
    fun takes change => ?_, all.2, fun x notListed notFired => ?_, ?_⟩
  · rw [tMonitor, dMonitor]
    exact acceptLevels_lane _ _ _ i lane
  · rw [tRecords.2 .airLow (by simp), effect.records.2 .airLow (by simp), cAir, aRecords.2 .airLow (by simp), tMonitor,
      effect.monitor, cMonitor, aMonitor]
  · rw [tRecords.2 .chute (by simp), effect.records.2 .chute (by simp), cChute, aRecords.2 .chute (by simp), tMonitor,
      effect.monitor, cMonitor, aMonitor]
  · intro matching
    have dWatch : d.monitor.watch = s.monitor.watch := by rw [dMonitor]
    have accepted : d.watched.monitor.accepted = d.monitor.accepted := by rw [tMonitor]
    have decides : matching ↔ d.record.watchMatches d.monitor.accepted = true := by
      rw [Record.watchMatches_iff, dRecord]
      simp only [matching, accepted]
    have unwatched := (cRecords.mono (ys := haltTallies) (gs := [.airLow, .chute, .held]) (by simp) (by simp)).trans
      (effect.records.mono (by simp) (by simp))
    have operating (run : s.mode ≠ .setup) : d.mode ≠ .setup := fun setup => run (cMode ▸ effect.operating.mp setup)
    have missed (miss : ¬ matching) : d.record.watchMatches d.monitor.accepted = false := by
      rw [← Bool.not_eq_true, ← decides]
      exact miss
    refine ⟨fun setup => ?_, fun run matches_ => ?_, fun run miss before => ?_, fun run miss before => ?_, fun quiet => ?_⟩
    · rw [State.watched_of_setup (effect.operating.mpr (cMode.trans setup)), dWatch]
    · rw [State.watched_of_operating (operating run), State.evaluateWatch_of_match (decides.mp matches_)]
    · rw [State.watched_of_operating (operating run), State.evaluateWatch_of_leaving (missed miss) (dWatch.trans before)]
      exact ⟨rfl, unwatched.counts (State.bump_counts { d with monitor := { d.monitor with watch := .unmatched } } .watch) (by simp),
        State.raise_flagSet _ _⟩
    · rw [State.watched_of_operating (operating run), State.evaluateWatch_of_miss (missed miss) (by rwa [dWatch]), dWatch]
    · have still : d.watched.tally .watch = d.tally .watch ∧ d.watched.flagSet .watch = d.flagSet .watch := by
        by_cases setup : s.mode = .setup
        · rw [State.watched_of_setup (effect.operating.mpr (cMode.trans setup))]
          exact ⟨rfl, rfl⟩
        · rw [State.watched_of_operating (operating setup)]
          by_cases matches_ : matching
          · rw [State.evaluateWatch_of_match (decides.mp matches_)]
            exact ⟨rfl, rfl⟩
          · have before := (quiet.resolve_left setup).resolve_left matches_
            rw [State.evaluateWatch_of_miss (missed matches_) (by rwa [dWatch])]
            exact ⟨rfl, rfl⟩
      obtain ⟨tally, flag⟩ := unwatched.same (x := .watch) (f := .watch) (by simp) (by simp)
      exact ⟨still.1.trans tally, still.2.trans flag⟩
  · rw [tDoor, tStop]
    refine ⟨fun kept single => ?_, fun setup => ?_, fun run held => ?_, fun quiet single => ?_, ?_⟩
    · have dOnly := effect.kept ((tOwn.symm.trans kept).trans cOwn.symm) single
      have few : s.records d.watched [.watch] [.airLow, .chute, .watch] :=
        ((cRecords.mono (by simp) (by simp)).trans (dOnly.records (by simp) (by simp) _ _)).trans (tRecords.mono (by simp) (by simp))
      exact ⟨few.1, few.2, ((cOnly.mono (by simp)).trans (dOnly.mono (by simp))).trans tOnly⟩
    · have dOnly := effect.inSetup (cMode.trans setup)
      rw [State.watched_of_setup (effect.operating.mpr (cMode.trans setup))]
      have few : s.records d [] [.airLow, .chute] := cRecords.trans (dOnly.records (by simp) (by simp) _ _)
      exact ⟨(dOnly .tallies (by simp)).trans (cOnly .tallies (by simp)), few.2,
        (cOnly.mono (by simp)).trans (dOnly.mono (by simp))⟩
    · obtain ⟨counts, flag⟩ := effect.enters (cMode.trans run) (tMode.symm.trans held)
      exact ⟨heldCounts 1 counts, heldKept.2.trans flag⟩
    · obtain ⟨tally, flag⟩ := effect.stays (by rwa [cMode, ← tMode]) single
      exact ⟨(heldKept.1.trans tally).trans fromS.1, (heldKept.2.trans flag).trans fromS.2⟩
    · rcases effect.once with ⟨tally, flag⟩ | ⟨counts, flag, operating, held⟩
      · exact .inl ⟨(heldKept.1.trans tally).trans fromS.1, (heldKept.2.trans flag).trans fromS.2⟩
      · exact .inr ⟨heldCounts 1 counts, heldKept.2.trans flag, by rwa [← cMode], tMode.trans held⟩
  · rw [tOwn, ← cOwn] at change
    rw [State.inHaltSet, tHaltSet, tOwn]
    refine (effect.inSet change k station).trans ?_
    rw [cOnly .strapId (by simp), State.inHaltSet, cOnly .haltSet (by simp)]
    rfl
  · rw [tOwn, ← cOwn] at change
    obtain ⟨cause, tx, changed, urgent, mute⟩ := effect.offers (State.takesOffers_of_same cOnly (by simp) takes) change
    refine ⟨cause, ?_, ?_, ?_, ?_⟩
    · rw [tTx, tx, tOwn, cOnly .tx (by simp)]
    · rw [tDoor, tStop, ← cDoor, ← cStop]
      exact changed
    · rw [tRecords.1 .urgentDrop (by simp), urgent, cRecords.1 .urgentDrop (by simp)]
    · rw [tRecords.1 .muteDrop (by simp), mute, cRecords.1 .muteDrop (by simp)]
  · refine all.1 x ?_
    simp only [List.mem_cons, List.not_mem_nil, or_false, not_or] at notListed
    obtain ⟨watch, held, urgent, mute, double⟩ := notListed
    simp only [List.mem_cons, not_or]
    exact ⟨watch, urgent, mute, held, double, notFired _, notFired _, notFired _, notFired _, notFired _, notFired _,
      List.not_mem_nil⟩
  · exact ((cOnly.mono (by simp)).trans effect.only).trans (tOnly.mono (by simp))

end Sys2Proof.Machine

/-! PROOF. Sightings at the track table (R87, R90 to R101): which sightings change no track, what a new track is, and what a join
comes to. -/

namespace Sys2Proof.Machine

/-! ## A sighting taken (R40, R89, R90) -/

/-- A sighting taken leaves its queue and is worked. -/
theorem State.takesSighting_works {s s1 : State} {c : Instr} {e : Evidence} (takes : s.takesSighting c e s1) :
    ∃ es xs, s1 = { s with inbox := es, localSightings := xs } ∧ exec c s = .next (s1.workSighting e) := by
  obtain ⟨out, operating, ⟨rfl, sender, b, cSof, tSof, rest, inbox, rfl, rfl⟩ | ⟨rfl, x, rest, sightings, rfl, rfl⟩⟩ := takes
  · refine ⟨rest, s.localSightings, rfl, ?_⟩
    change execSightTaken s = _
    refine (s.act_out _ out).trans ?_
    simp only [State.operating_of operating, inbox]
    rfl
  · refine ⟨s.inbox, rest, rfl, ?_⟩
    change execLocalSightingTaken s = _
    refine (s.act_out _ out).trans ?_
    simp only [State.operating_of operating, sightings]
    rfl

theorem Record.admits_iff (s : State) (e : Evidence) : s.record.admits e = true ↔ s.windowHolds e := by
  simp only [Record.admits, Bool.and_eq_true, decide_eq_true_eq, State.windowHolds]
  omega

theorem Record.matchesTrack_iff (s : State) (e : Evidence) (n : Nat) (u : Track) :
    s.record.matchesTrack (s.record.newTrack e n) u = true ↔ s.sightingMeets e u := by
  simp only [Record.matchesTrack, overlapWithin, lanesMeet, Bool.and_eq_true, decide_eq_true_eq]
  rfl

/-! ## Work by cases (R90 to R94) -/

section
variable {s : State} {e : Evidence}

theorem State.workSighting_of_outside (outside : ¬ s.windowHolds e) : s.workSighting e = s := by
  refine if_pos ?_
  rw [Bool.not_eq_true', Bool.eq_false_iff]
  exact fun admitted => outside ((Record.admits_iff s e).mp admitted)

theorem State.workSighting_of_past (inside : s.windowHolds e) (past : s.record.beltHead ≤ e.sensorLine) :
    s.workSighting e = s.bump .badGeometry :=
  (if_neg (by simp [(Record.admits_iff s e).mpr inside])).trans (if_pos past)

theorem State.workSighting_of_late (inside : s.windowHolds e) (before : e.sensorLine < s.record.beltHead)
    (late : atOrBefore (s.leadOf e) s.belt.count) : s.workSighting e = s.bump .late :=
  (if_neg (by simp [(Record.admits_iff s e).mpr inside])).trans ((if_neg (Nat.not_le.mpr before)).trans (if_pos late))

theorem State.workSighting_of_ahead (inside : s.windowHolds e) (before : e.sensorLine < s.record.beltHead)
    (early : ahead (s.leadOf e) s.belt.count) : s.workSighting e = s.associate (s.record.newTrack e s.nextMade) :=
  (if_neg (by simp [(Record.admits_iff s e).mpr inside])).trans ((if_neg (Nat.not_le.mpr before)).trans
    (if_neg fun late => Bool.false_ne_true (((ahead_iff _ _).mp early).symm.trans late)))

theorem State.associate_of_none {x : Track} (none : s.tracks.filter (s.record.matchesTrack x) = []) : s.associate x = s.make x := by
  simp only [State.associate, none]
  rfl

theorem State.associate_of_settled {x : Track} (met : s.tracks.filter (s.record.matchesTrack x) ≠ [])
    (settled : (s.tracks.filter (s.record.matchesTrack x)).filter (fun t => t.state = .collecting) = []) :
    s.associate x = s.bump .late := by
  simp only [State.associate, settled]
  exact if_neg (by simpa using met)

theorem State.associate_of_collecting {x u : Track} {others : List Track}
    (found : (s.tracks.filter (s.record.matchesTrack x)).filter (fun t => t.state = .collecting) = u :: others) :
    s.associate x = s.join u others x := by
  simp only [State.associate, found]

theorem filter_matches_eq_nil (none : ∀ u ∈ s.tracks, ¬ s.sightingMeets e u) (n : Nat) :
    s.tracks.filter (s.record.matchesTrack (s.record.newTrack e n)) = [] :=
  List.filter_eq_nil_iff.mpr fun u hu => fun meets => none u hu ((Record.matchesTrack_iff s e n u).mp meets)

end

/-- Settles O41: each sighting is dealt with by the first test that it fails. -/
theorem sightingsThatChangeNoTrack : Obligations.SightingsThatChangeNoTrack := by
  intro s s1 c e takes
  obtain ⟨es, xs, rfl, works⟩ := State.takesSighting_works takes
  rw [works]
  generalize isTaken : ({ s with inbox := es, localSightings := xs } : State) = t
  have same : t.tracks = s.tracks ∧ t.record = s.record ∧ t.belt = s.belt := by subst isTaken; exact ⟨rfl, rfl, rfl⟩
  obtain ⟨tracks, record, belt⟩ := same
  have windows : s.windowHolds e ↔ t.windowHolds e := by rw [State.windowHolds, State.windowHolds, record]
  have leads : s.leadOf e = t.leadOf e := by rw [State.leadOf, State.leadOf, record]
  have meets : ∀ u, s.sightingMeets e u ↔ t.sightingMeets e u := fun u => by subst isTaken; exact Iff.rfl
  rw [windows, leads, ← tracks, ← record, ← belt]
  simp only [meets]
  refine ⟨fun outside => congrArg _ (State.workSighting_of_outside outside),
    fun inside past => congrArg _ (State.workSighting_of_past inside past), fun inside before =>
    ⟨fun late => congrArg _ (State.workSighting_of_late inside before late), fun early met settled => congrArg _ ?_,
      fun early none full => congrArg _ ?_⟩⟩
  · rw [State.workSighting_of_ahead inside before early]
    obtain ⟨u, listed, uMeets⟩ := met
    refine State.associate_of_settled (List.ne_nil_of_mem (List.mem_filter.mpr ⟨listed, (Record.matchesTrack_iff _ _ _ _).mpr uMeets⟩))
      (List.filter_eq_nil_iff.mpr fun v hv => ?_)
    obtain ⟨inTable, vMeets⟩ := List.mem_filter.mp hv
    simpa using settled v inTable ((Record.matchesTrack_iff _ _ _ _).mp vMeets)
  · rw [State.workSighting_of_ahead inside before early, State.associate_of_none (filter_matches_eq_nil none _)]
    exact if_pos full

/-! ## A new track (R99, R101) -/

theorem Scores.of_zero_add (c k : PieceClass) (n : Nat) (none : c = .unknown → n = 0) :
    (Scores.zero.add c n).of k = if k = c then min 65535 n else 0 := by
  cases c <;> cases k <;> simp [Scores.zero, Scores.add, Scores.of, addUpTo, none]

theorem Record.newTrack_score (r : Record) (e : Evidence) (n : Nat) (k : PieceClass) :
    (r.newTrack e n).scores.of k = if k = e.hint then min 65535 (r.weight e.kind e.hint * e.strength) else 0 :=
  Scores.of_zero_add _ _ _ fun isUnknown => by simp [Record.contribution, isUnknown, Record.weight]

/-- A COLLECTING track of a table with one track of each number is judged at once exactly when its verdict count has been reached. -/
theorem State.judgeIfDue_of_mem {s : State} {x : Track} (unique : (s.tracks.map Track.made).Nodup) (listed : x ∈ s.tracks)
    (collecting : x.state = .collecting) :
    s.judgeIfDue x.made = if atOrBefore (s.record.verdictCount x) s.belt.count then s.judge x else s := by
  simp only [State.judgeIfDue, s.findTrack_of_mem x unique listed, collecting, true_and]

/-- Settles O40: the track is placed, and judged when its verdict count has been reached. -/
theorem sightingMakesATrack : Obligations.SightingMakesATrack := by
  intro s s1 c e takes sound inside before early none room verdict
  obtain ⟨es, xs, rfl, works⟩ := State.takesSighting_works takes
  have made : State.workSighting { s with inbox := es, localSightings := xs } e
      = State.make { s with inbox := es, localSightings := xs } (s.record.newTrack e s.nextMade) :=
    (State.workSighting_of_ahead (s := { s with inbox := es, localSightings := xs }) inside before early).trans
      (State.associate_of_none (filter_matches_eq_nil (s := { s with inbox := es, localSightings := xs }) none _))
  have fresh : ∀ u ∈ s.tracks, u.made ≠ s.nextMade := fun u hu => Nat.ne_of_lt (sound.2.1 u hu).1
  let x := s.record.newTrack e s.nextMade
  obtain ⟨front, back, split, placed, ahead_, behind⟩ := placeTrack_splits s.belt.count x s.tracks
  have perm := placeTrack_perm s.belt.count x s.tracks
  have unique : ((placeTrack s.belt.count x s.tracks).map Track.made).Nodup := by
    rw [(perm.map Track.made).nodup_iff, List.map_cons, List.nodup_cons]
    refine ⟨fun again => ?_, sound.1⟩
    obtain ⟨u, hu, same⟩ := List.mem_map.mp again
    exact fresh u hu same
  have judges := State.judgeIfDue_of_mem (x := x)
    (s := { s with inbox := es, localSightings := xs, tracks := placeTrack s.belt.count x s.tracks, nextMade := s.nextMade + 1 })
    unique (perm.mem_iff.mpr List.mem_cons_self) rfl
  have makes : exec c s = .next (State.judgeIfDue
      { s with inbox := es, localSightings := xs, tracks := placeTrack s.belt.count x s.tracks, nextMade := s.nextMade + 1 } x.made) := by
    rw [works, made]
    exact congrArg _ (if_neg (Nat.not_le.mpr room))
  rw [judges, placed] at makes
  refine ⟨x, front, back, split, ahead_, behind, rfl, rfl, rfl, rfl, rfl, rfl, rfl, s.record.newTrack_score e _, rfl, rfl, rfl, rfl,
    rfl, rfl, rfl, rfl, rfl, rfl, fun open_ => ?_, fun reached => ?_⟩
  · rw [makes]
    refine congrArg _ (if_neg ?_)
    have : atOrBefore verdict s.belt.count = false := (ahead_iff _ _).mp open_
    exact fun reached => Bool.false_ne_true (this.symm.trans reached)
  · rw [makes]
    exact congrArg _ (if_pos reached)

end Sys2Proof.Machine

/-! PROOF. A sighting that joins its tracks (R94 to R98, R101): the values of the joined track and the table around it. -/

namespace Sys2Proof.Machine

/-! ## The tracks joined -/

/-- In a list without repetition a part that holds exactly the elements with a property is what the filter leaves. -/
theorem filter_eq_of_sublist {α : Type} {l m : List α} {p : α → Bool} (sub : m.Sublist l) (distinct : l.Nodup)
    (mem : ∀ v ∈ l, v ∈ m ↔ p v = true) : l.filter p = m := by
  have kept : m.filter p = m := List.filter_eq_self.mpr fun v hv => (mem v (sub.subset hv)).mp hv
  have part : m.Sublist (l.filter p) := kept ▸ sub.filter p
  refine (part.eq_of_length_le ?_).symm
  refine ((distinct.filter p).subperm fun v hv => ?_).length_le
  obtain ⟨inList, holds⟩ := List.mem_filter.mp hv
  exact (mem v inList).mpr holds

theorem nodup_of_sound {s : State} (sound : s.tableSound) : s.tracks.Nodup := sound.1.of_map

/-- The tracks left beside the joined ones. -/
def leftBeside (s : State) (gone : List Track) : List Track := s.tracks.filter fun v => !(gone.map Track.made).contains v.made

section
variable {s : State} {gone : List Track}

/-- By its number a track of the table is told to be among those joined. -/
theorem made_mem_gone (sound : s.tableSound) (listed : ∀ v ∈ gone, v ∈ s.tracks) {v : Track} (hv : v ∈ s.tracks) :
    v.made ∈ gone.map Track.made ↔ v ∈ gone := by
  refine ⟨fun named => ?_, fun joins => List.mem_map_of_mem joins⟩
  obtain ⟨w, hw, same⟩ := List.mem_map.mp named
  rwa [State.eq_of_made sound hv (listed w hw) same] at hw

theorem mem_leftBeside (sound : s.tableSound) (listed : ∀ v ∈ gone, v ∈ s.tracks) {v : Track} :
    v ∈ leftBeside s gone ↔ v ∈ s.tracks ∧ v ∉ gone := by
  rw [leftBeside, List.mem_filter]
  refine and_congr_right fun hv => ?_
  rw [Bool.not_eq_true', List.contains_eq_mem, decide_eq_false_iff_not, made_mem_gone sound listed hv]

theorem leftBeside_length (sound : s.tableSound) (sub : gone.Sublist s.tracks) :
    (leftBeside s gone).length + gone.length = s.tracks.length := by
  have joined_ : s.tracks.filter (fun v => (gone.map Track.made).contains v.made) = gone :=
    filter_eq_of_sublist sub (nodup_of_sound sound) fun v hv => by
      rw [List.contains_eq_mem, decide_eq_true_eq, made_mem_gone sound sub.subset hv]
  have split := List.filter_append_perm (fun v => (gone.map Track.made).contains v.made) s.tracks
  rw [joined_] at split
  have := split.length_eq
  rw [List.length_append] at this
  rw [leftBeside]
  omega

end

/-! ## The values of the joined track (R95 to R97, R101) -/

/-- A value of the joined track, taken over one constituent after another. -/
theorem joined_value {α : Type} (value : Track → α) (op : α → α → α) (absorbs : ∀ t x, value (t.absorb x) = op (value t) (value x))
    (marked : ∀ t m, value { t with mark := m } = value t) (u : Track) (others : List Track) (x : Track) :
    value (joined u others x) = others.foldl (fun a v => op a (value v)) (op (value u) (value x)) := by
  rw [← absorbs]
  exact (marked _ _).trans (List.foldl_hom value fun t v => (absorbs t v).symm).symm

theorem addUpTo_le (limit a b : Nat) : addUpTo limit a b ≤ limit := Nat.min_le_left _ _

theorem foldl_addUpTo_of_le {α : Type} (limit : Nat) (f : α → Nat) (xs : List α) : ∀ a, a ≤ limit →
    xs.foldl (fun a x => addUpTo limit a (f x)) a = min limit (a + (xs.map f).sum) := by
  induction xs with
  | nil => intro a within; simp [within]
  | cons x rest ih =>
    intro a _
    rw [List.foldl_cons, ih _ (addUpTo_le _ _ _), List.map_cons, List.sum_cons]
    simp only [addUpTo]
    omega

theorem Scores.of_merge (x y : Scores) {k : PieceClass} (isClass : k ≠ .unknown) :
    (x.merge y).of k = addUpTo 65535 (x.of k) (y.of k) := by
  cases k <;> first | exact absurd rfl isClass | rfl

/-- The score of a class: the sum of the tracks' scores and the sighting's contribution, cut once (R96, R101). -/
theorem joined_score (r : Record) (e : Evidence) (n : Nat) (u : Track) (others : List Track) {k : PieceClass}
    (isClass : k ≠ .unknown) :
    (joined u others (r.newTrack e n)).scores.of k = min 65535 (((u :: others).map fun v => v.scores.of k).sum
      + if k = e.hint then r.weight e.kind e.hint * e.strength else 0) := by
  rw [joined_value (fun t => t.scores.of k) (addUpTo 65535) (fun t x => Scores.of_merge _ _ isClass) fun _ _ => rfl,
    foldl_addUpTo_of_le _ (fun v : Track => v.scores.of k) _ _ (addUpTo_le _ _ _), r.newTrack_score, List.map_cons, List.sum_cons]
  simp only [addUpTo]
  split <;> omega

theorem firstMark_eq (ts : List Track) : firstMark ts = ts.findSome? Track.mark := by
  induction ts with
  | nil => rfl
  | cons t rest ih =>
    rw [firstMark, List.findSome?_cons, ih]
    cases t.mark <;> rfl

/-- The place and anchor of two constituents: those of the earlier, with equal A_lead the lower id, then the lower serial (R97). -/
def anchorFirst (a b : Count × Nat × Byte) : Count × Nat × Byte :=
  if b.1 = a.1 then (if b.2.1 < a.2.1 ∨ (b.2.1 = a.2.1 ∧ b.2.2.toNat < a.2.2.toNat) then b else a)
  else if atOrBefore b.1 a.1 then (earlier a.1 b.1, b.2) else (earlier a.1 b.1, a.2)

theorem absorb_anchor (t x : Track) : ((t.absorb x).aLead, (t.absorb x).anchorId, (t.absorb x).anchorSerial)
    = anchorFirst (t.aLead, t.anchorId, t.anchorSerial) (x.aLead, x.anchorId, x.anchorSerial) := by
  unfold Track.absorb anchorFirst anchorsBefore
  by_cases same : x.aLead = t.aLead
  · have lead : earlier t.aLead t.aLead = t.aLead := ite_self _
    simp only [same, lead, if_true, Bool.or_eq_true, Bool.and_eq_true, decide_eq_true_eq]
    split <;> rfl
  · simp only [same, if_false]
    split <;> rfl

/-! ## The join -/

/-- Settles O42: the joined track takes its values over the constituents, and its place among the tracks left. -/
theorem sightingJoinsItsTracks : Obligations.SightingJoinsItsTracks := by
  intro s s1 c e u others takes sound inside before early sub which
  obtain ⟨es, xs, rfl, works⟩ := State.takesSighting_works takes
  have listed : ∀ v ∈ u :: others, v ∈ s.tracks := sub.subset
  have uListed := listed u List.mem_cons_self
  have uCollecting : u.state = .collecting := ((which u uListed).mp List.mem_cons_self).1
  let x := s.record.newTrack e s.nextMade
  have found : (s.tracks.filter (s.record.matchesTrack x)).filter (fun t => t.state = .collecting) = u :: others := by
    rw [List.filter_filter]
    refine filter_eq_of_sublist sub (nodup_of_sound sound) fun v hv => (which v hv).trans ?_
    rw [Bool.and_eq_true, decide_eq_true_eq, Record.matchesTrack_iff]
  let j := joined u others x
  let ts := placeTrack s.belt.count j (leftBeside s (u :: others))
  have jMade : j.made = u.made := joined_made u others x
  have perm : ts.Perm (j :: leftBeside s (u :: others)) := placeTrack_perm _ _ _
  have left : (leftBeside s (u :: others)).Sublist s.tracks := List.filter_sublist
  have fresh : ∀ v ∈ leftBeside s (u :: others), v.made ≠ j.made := fun v hv same => by
    obtain ⟨hv, out⟩ := (mem_leftBeside sound listed).mp hv
    exact out ((made_mem_gone sound listed hv).mp (by rw [same, jMade]; exact List.mem_map_of_mem List.mem_cons_self))
  have unique : (ts.map Track.made).Nodup := by
    rw [(perm.map Track.made).nodup_iff, List.map_cons, List.nodup_cons]
    refine ⟨fun again => ?_, sound.1.sublist (left.map _)⟩
    obtain ⟨v, hv, same⟩ := List.mem_map.mp again
    exact fresh v hv same
  have jListed : j ∈ ts := perm.mem_iff.mpr List.mem_cons_self
  have jCollecting : j.state = .collecting := (joined_state u others x).trans uCollecting
  have runs : exec c s = .next (State.judgeIfDue { s with inbox := es, localSightings := xs, tracks := ts } j.made) := by
    rw [works, jMade]
    refine congrArg _ ((State.workSighting_of_ahead (s := { s with inbox := es, localSightings := xs }) inside before early).trans ?_)
    exact State.associate_of_collecting (s := { s with inbox := es, localSightings := xs }) found
  rw [State.judgeIfDue_of_mem (s := { s with inbox := es, localSightings := xs, tracks := ts }) unique jListed jCollecting] at runs
  obtain ⟨-, -, cls, degraded, oversize, -, -, -, flight, -⟩ := foldl_absorb_keeps others (u.absorb x)
  refine ⟨j, ts, jListed, jMade, ?_, fun v other => ?_, joined_value Track.aLead earlier (fun _ _ => rfl) (fun _ _ => rfl) u others x,
    joined_value Track.aTrail later (fun _ _ => rfl) (fun _ _ => rfl) u others x,
    joined_value Track.laneFirst min (fun _ _ => rfl) (fun _ _ => rfl) u others x,
    joined_value Track.laneLast max (fun _ _ => rfl) (fun _ _ => rfl) u others x,
    fun k isClass => joined_score s.record e s.nextMade u others isClass, firstMark_eq _,
    joined_value (fun t => (t.aLead, t.anchorId, t.anchorSerial)) anchorFirst absorb_anchor (fun _ _ => rfl) u others x, jCollecting,
    cls, flight, degraded, oversize, fun ordered => ?_, fun open_ => ?_, fun reached => ?_⟩
  · have lengths := leftBeside_length sound sub
    rw [perm.length_eq, List.length_cons, ← lengths, List.length_cons]
    omega
  · rw [perm.mem_iff, List.mem_cons, or_iff_right other, mem_leftBeside sound listed]
  · rw [State.tableOrdered_iff] at ordered ⊢
    exact placeTrack_ordered fresh (ordered.sublist (left.map _))
  · rw [runs]
    exact congrArg _ (if_neg fun reached => Bool.false_ne_true (((ahead_iff _ _).mp open_).symm.trans reached))
  · rw [runs]
    exact congrArg _ (if_pos reached)

end Sys2Proof.Machine

/-! PROOF. The verdict (R107 to R115): what decides class, state and flags, and when it offers a CLAIM. -/

namespace Sys2Proof.Machine

theorem Role.senses_iff (r : Role) : r.senses = true ↔ r ≠ .eject := by cases r <;> simp [Role.senses]

theorem Peer.uncovers_iff (p : Peer) (t : Track) : p.uncovers t = true ↔ ∃ d, p.state = .lost ∧ p.about = some d ∧ d.role ≠ .eject
    ∧ d.laneBase ≤ t.laneLast ∧ t.laneFirst ≤ d.laneBase + d.laneCount - 1 := by
  unfold Peer.uncovers
  split
  next d lost about =>
    simp only [Bool.and_eq_true, decide_eq_true_eq, Role.senses_iff, and_assoc]
    refine ⟨fun covers => ⟨d, lost, about, covers⟩, ?_⟩
    rintro ⟨d', -, same, covers⟩
    cases about.symm.trans same
    exact covers
  next other =>
    refine iff_of_false Bool.false_ne_true ?_
    rintro ⟨d, lost, about, -⟩
    exact other d lost about

/-- A track has lost coverage when a lost, described, sensing peer shares a lane with it (R110). -/
theorem State.lostCoverage_iff (s : State) (t : Track) : s.lostCoverage t = true ↔ ∃ i : Fin 24, ∃ d, (s.peers[i]).state = .lost
    ∧ (s.peers[i]).about = some d ∧ d.role ≠ .eject ∧ d.laneBase ≤ t.laneLast ∧ t.laneFirst ≤ d.laneBase + d.laneCount - 1 := by
  have some_ : s.lostCoverage t = true ↔ ∃ i : Fin 24, (s.peers[i]).uncovers t = true := by
    unfold State.lostCoverage
    rw [Vector.toList_eq_map_finRange, List.any_map, List.any_eq_true]
    exact ⟨fun ⟨i, _, covers⟩ => ⟨i, covers⟩, fun ⟨i, covers⟩ => ⟨i, List.mem_finRange i, covers⟩⟩
  rw [some_]
  exact exists_congr fun i => Peer.uncovers_iff _ t

theorem Track.rescued_iff (t : Track) : t.rescued = true ↔ ∃ c, t.mark = some (.rescue c) := by
  unfold Track.rescued
  cases mark : t.mark with
  | none => simp
  | some m => cases m <;> simp

/-! ## The verdict by what decides it (R110 to R113) -/

section
variable {s : State} {t : Track}

theorem State.judged_of_lost (lost : s.lostCoverage t = true) : s.judged t
    = { t with cls := s.record.verdictClass t, mark := none, degraded := true, state := if s.record.sweep then .armed else .watching } :=
  if_pos lost

theorem State.judged_of_long (covered : ¬ s.lostCoverage t = true) (long : s.record.maxEjectLength < t.length) :
    s.judged t = { t with cls := s.record.verdictClass t, mark := none, oversize := true, state := .watching } :=
  (if_neg covered).trans (if_pos long)

theorem State.judged_of_class (covered : ¬ s.lostCoverage t = true) (fits : ¬ s.record.maxEjectLength < t.length) :
    s.judged t = { t with
      cls := s.record.verdictClass t, mark := none
      state := if s.record.isTarget (s.record.verdictClass t) || t.rescued then .armed else .watching } := by
  refine (if_neg covered).trans ((if_neg fits).trans ?_)
  split <;> rfl

theorem State.judged_mark : (s.judged t).mark = none := by
  by_cases lost : s.lostCoverage t = true
  · rw [State.judged_of_lost lost]
  · by_cases long : s.record.maxEjectLength < t.length
    · rw [State.judged_of_long lost long]
    · rw [State.judged_of_class lost long]

/-- A verdict moves class, mark, state and its two flags alone. -/
theorem State.judged_frame : s.judged t = { t with
    cls := (s.judged t).cls, mark := (s.judged t).mark, state := (s.judged t).state
    degraded := (s.judged t).degraded, oversize := (s.judged t).oversize } := by
  by_cases lost : s.lostCoverage t = true
  · rw [State.judged_of_lost lost]
  · by_cases long : s.record.maxEjectLength < t.length
    · rw [State.judged_of_long lost long]
    · rw [State.judged_of_class lost long]

end

theorem Record.verdictClass_of_mark {r : Record} {t : Track} {c : PieceClass}
    (mark : t.mark = some (.claimed c) ∨ t.mark = some (.rescue c)) : r.verdictClass t = c := by
  rcases mark with mark | mark <;> simp only [Record.verdictClass, mark]

/-! ## The CLAIM (R114, R115) -/

theorem Record.spansWindow_iff (r : Record) (t : Track) :
    r.spansWindow t = true ↔ t.laneFirst < r.laneBase ∨ r.laneBase + r.laneCount ≤ t.laneLast := by
  simp [Record.spansWindow]

theorem State.report_eq (s : State) (t : Track) : s.report t = s.frameValues t := rfl

theorem State.judge_of_quiet {s : State} {t : Track} (quiet : ¬ ((s.judged t).state = .armed ∧ s.record.spansWindow t = true)) :
    s.judge t = s.updateTrack t.made fun _ => s.judged t := if_neg quiet

theorem State.judge_of_claim {s : State} {t : Track} (armed : (s.judged t).state = .armed) (spans : s.record.spansWindow t = true) :
    s.judge t = (s.updateTrack t.made fun _ => s.judged t).offer (.claim (s.frameValues (s.judged t))) := if_pos ⟨armed, spans⟩

/-- Settles O44: coverage, length, target set and rescue in turn; a CLAIM where an armed track reaches over the window's edge. -/
theorem verdictSetsStateAndClaim : Obligations.VerdictSetsStateAndClaim := by
  intro s u j uncovered length
  have lost : uncovered ↔ s.lostCoverage u = true := (s.lostCoverage_iff u).symm
  refine ⟨fun c mark => ?_, State.judged_mark, State.judged_frame, fun bare => ?_, fun covered long => ?_, fun covered fits => ?_,
    fun quiet => State.judge_of_quiet ?_, fun armed spans => ?_⟩
  · exact (s.judged_class_scores u).1.trans (Record.verdictClass_of_mark mark)
  · rw [show j = _ from State.judged_of_lost (lost.mp bare)]
    exact ⟨rfl, rfl, rfl⟩
  · rw [show j = _ from State.judged_of_long (lost.not.mp covered) long]
    exact ⟨rfl, rfl, rfl⟩
  · rw [show j = _ from State.judged_of_class (lost.not.mp covered) (Nat.not_lt.mpr fits)]
    refine ⟨rfl, rfl, fun arms => ?_, fun noTarget noRescue => ?_⟩
    · refine if_pos ?_
      rw [Bool.or_eq_true, Track.rescued_iff]
      exact arms
    · refine if_neg ?_
      rw [Bool.or_eq_true, Track.rescued_iff, not_or, not_exists]
      exact ⟨by simpa using noTarget, noRescue⟩
  · rintro ⟨armed, spans⟩
    rcases quiet with watching | ⟨first, last⟩
    · cases watching.symm.trans armed
    · rcases (Record.spansWindow_iff _ _).mp spans with below | above <;> omega
  · rw [State.judge_of_claim armed ((Record.spansWindow_iff _ _).mpr spans)]
    have updated := s.updateTrack_only u.made fun _ => j
    refine ⟨?_, updated.then (State.offer_only _ _) (by simp) (by simp), fun takes => ?_⟩
    · rw [State.offer_only _ _ .tracks (by simp), State.updateTrack_tracks]
    · rw [State.offer_of_taken (State.takesOffers_of_same updated (by simp) takes)]
      rfl

end Sys2Proof.Machine

/-! PROOF. Flight times (R139 to R142), the order in which a t_open is worked (R155), and the due times of flights and valves (R146,
R156 to R158). -/

namespace Sys2Proof.Machine

/-! ## Flight arithmetic -/

/-- The clamps of R141, steps 3 and 4, in one. -/
theorem Record.duration_eq {r : Record} (agree : r.minPulse ≤ r.maxOpen) (length delta : Nat) :
    r.duration length delta = max r.minPulse (min r.maxOpen (r.rawDuration length delta)) := by
  unfold Record.duration
  split_ifs <;> omega

theorem Record.trims_iff {r : Record} (agree : r.minPulse ≤ r.maxOpen) (length delta : Nat) :
    r.trims length delta = true ↔ r.maxOpen < r.rawDuration length delta := by
  simp only [Record.trims, Bool.and_eq_true, Bool.not_eq_true', decide_eq_false_iff_not, decide_eq_true_eq]
  omega

/-- Settles O45: the clamps of the flight distance and of the duration, and the times made of them. -/
theorem flightTimesFollowTheMeasure : Obligations.FlightTimesFollowTheMeasure := by
  intro r u launch delta distanceOf raw f
  refine ⟨?_, rfl, rfl, rfl, fun agree => ⟨?_, Record.trims_iff agree _ _⟩⟩
  · have corrected : ((r.correctedDistance u.cls : Nat) : Int) = distanceOf := Int.toNat_of_nonneg (le_max_left 0 _)
    rw [Record.openDistance, ← corrected]
    omega
  · have lasts : r.duration u.length delta = max r.minPulse (min r.maxOpen raw) := Record.duration_eq agree _ _
    have short : r.duration u.length delta < 2 ^ 32 := by
      have := r.maxOpen_lt
      omega
    rw [← lasts]
    calc (f.tClose - f.tOpen).toNat = (BitVec.ofNat 32 (r.duration u.length delta)).toNat :=
          congrArg BitVec.toNat (add_sub_cancel_left _ _)
      _ = r.duration u.length delta := by rw [BitVec.toNat_ofNat, Nat.mod_eq_of_lt short]

/-! ## The order of service -/

theorem State.servedBefore_iff (s : State) (a b : Track) : s.servedBefore a b = true ↔
    s.openDistance a < s.openDistance b ∨ (s.openDistance a = s.openDistance b
      ∧ (s.record.classRank b.cls < s.record.classRank a.cls ∨ (s.record.classRank a.cls = s.record.classRank b.cls
        ∧ (distance s.belt.count a.aLead < distance s.belt.count b.aLead
          ∨ (distance s.belt.count a.aLead = distance s.belt.count b.aLead ∧ a.made < b.made))))) := by
  unfold State.servedBefore standsBefore
  split_ifs with due rank <;> simp [due] <;> omega

/-- Whoever is served before `b` is served before what `b` does not come after. -/
theorem State.servedBefore_of_not {s : State} {a b c : Track} (before : s.servedBefore a b = true)
    (notAfter : s.servedBefore c b = false) : s.servedBefore c a = false := by
  rw [← Bool.not_eq_true] at notAfter ⊢
  rw [State.servedBefore_iff] at before notAfter ⊢
  omega

theorem State.servedBefore_asymm {s : State} {a b : Track} (before : s.servedBefore a b = true) : s.servedBefore b a = false := by
  rw [← Bool.not_eq_true]
  rw [State.servedBefore_iff] at before ⊢
  omega

/-- In order of service: none of the list is to be served before one that stands earlier. -/
def State.inService (s : State) (ts : List Track) : Prop := ts.Pairwise fun a b => s.servedBefore b a = false

theorem State.placeServed_inService {s : State} (t : Track) {ts : List Track} (ordered : s.inService ts) :
    s.inService (s.placeServed t ts) := by
  induction ts with
  | nil => exact List.pairwise_singleton _ _
  | cons u rest ih =>
    obtain ⟨first, later⟩ := List.pairwise_cons.mp ordered
    unfold State.placeServed
    split
    next before =>
      refine List.pairwise_cons.mpr ⟨fun v hv => ?_, ordered⟩
      rcases List.mem_cons.mp hv with rfl | hv
      · exact State.servedBefore_asymm before
      · exact State.servedBefore_of_not before (first v hv)
    next after =>
      refine List.pairwise_cons.mpr ⟨fun v hv => ?_, ih later⟩
      rcases List.mem_cons.mp ((placeServed_perm s t rest).mem_iff.mp hv) with rfl | hv
      · simpa using after
      · exact first v hv

/-- The tracks of `openGroup` themselves. -/
def State.service (s : State) : List Track := (s.tracks.filter s.openDue).foldl (fun acc t => s.placeServed t acc) []

theorem State.openGroup_eq (s : State) : s.openGroup = s.service.map Track.made := rfl

theorem State.service_perm (s : State) : s.service.Perm (s.tracks.filter s.openDue) := by
  have placed : ∀ ts acc : List Track, (ts.foldl (fun acc t => s.placeServed t acc) acc).Perm (ts ++ acc) := by
    intro ts
    induction ts with
    | nil => exact fun acc => .refl acc
    | cons t rest ih =>
      exact fun acc => (ih _).trans ((List.Perm.append_left rest (placeServed_perm s t acc)).trans List.perm_middle)
  have whole := placed (s.tracks.filter s.openDue) []
  rwa [List.append_nil] at whole

theorem State.service_inService (s : State) : s.inService s.service := by
  have placed : ∀ ts acc : List Track, s.inService acc → s.inService (ts.foldl (fun acc t => s.placeServed t acc) acc) := by
    intro ts
    induction ts with
    | nil => exact fun _ ordered => ordered
    | cons t rest ih => exact fun _ ordered => ih _ (State.placeServed_inService t ordered)
  exact placed _ [] .nil

theorem State.tOpenDue_works {s : State} (out : s.inReset = false) : exec .tOpenDue s = .next (s.openGroup.foldl State.request s) := by
  change execTOpenDue s = _
  exact s.act_out _ out

/-- Settles O49: the group is the tracks fallen due, put into the order of service one after another. -/
theorem requestsGoByRankThenPlace : Obligations.RequestsGoByRankThenPlace := by
  intro s out
  refine ⟨s.service, s.service_perm, ?_, s.service_inService.imp fun {a b} notBefore f g ha hb same => ?_⟩
  · rw [State.tOpenDue_works out, s.openGroup_eq, List.foldl_map]
  · have due : s.openDistance a = s.openDistance b := by
      rw [State.openDistance, State.openDistance, ha, hb, Option.map_some, Option.map_some, same]
    rw [← Bool.not_eq_true, State.servedBefore_iff] at notBefore
    omega

/-! ## The due times of flights and valves -/

theorem State.setValve_openCount (s : State) (i : Fin 32) (v : Valve) :
    State.openCount { s with valves := s.valves.set i v } + (if (s.valves[i]).isOpen then 1 else 0)
      = s.openCount + if v.isOpen then 1 else 0 := by
  have here : s.valves.toList[i.val]'(by simp) = s.valves[i] := by simp
  have counted : State.openCount { s with valves := s.valves.set i v } = s.openCount
      - (if (s.valves[i]).isOpen then 1 else 0) + if v.isOpen then 1 else 0 := by
    unfold State.openCount
    dsimp only
    rw [Vector.toList_set, List.countP_set (by simp), here]
  have some_ : (s.valves[i]).isOpen = true → 0 < s.openCount := fun isOpen =>
    List.countP_pos_iff.mpr ⟨_, List.getElem_mem _, here.symm ▸ isOpen⟩
  rw [counted]
  by_cases isOpen : (s.valves[i]).isOpen = true
  · have := some_ isOpen
    rw [if_pos isOpen]
    omega
  · rw [if_neg isOpen]
    omega

theorem settleTrack_of_due {s : State} {t : Track} {f : Flight} (unique : (s.tracks.map Track.made).Nodup) (listed : t ∈ s.tracks)
    (firing : t.state = .firing) (flight : t.flight = some f) (due : atOrBefore f.tClose s.belt.timebase) :
    s.settleTrack t.made = s.endTrack t .fired := by
  unfold State.settleTrack
  simp only [s.findTrack_of_mem t unique listed, firing, flight]
  exact if_pos due

/-- One valve record changed: the others and every other part stay. -/
theorem State.setValve_works {s : State} {c : Instr} {i : Fin 32} {v : Valve} {n : Nat}
    (runs : exec c s = .next { s with valves := s.valves.set i v })
    (count : (if v.isOpen then 1 else 0) + n = if (s.valves[i]).isOpen then 1 else 0) :
    ∃ t, exec c s = .next t ∧ t.valves[i] = v ∧ (∀ k : Fin 32, k ≠ i → t.valves[k] = s.valves[k]) ∧ t.openCount + n = s.openCount
      ∧ s.changesOnly t [.valves] := by
  refine ⟨_, runs, ?_, fun k other => ?_, ?_, s.setValves_only _⟩
  · exact Vector.getElem_set_self i.isLt
  · exact Vector.getElem_set_ne i.isLt k.isLt fun same => other (Fin.ext same.symm)
  · have := s.setValve_openCount i v
    omega

/-- Settles O50: the ends of the two flights, and the two changes of a valve record. -/
theorem flightsEndAndValvesRestAtTheirTimes : Obligations.FlightsEndAndValvesRestAtTheirTimes := by
  intro s out
  refine ⟨fun u listed f sound flight => ⟨fun coasting due => ?_, fun firing due => ?_⟩, fun i o c isOpen due => ?_,
    fun i r resting due => ?_⟩
  · refine ⟨s.endTrack u .passed, ?_, s.endTrack_ends u _, s.endTrack_only u _⟩
    change execCoastingTOpen u.made s = _
    refine (s.act_out _ out).trans ?_
    simp only [s.findTrack_of_mem u sound.1 listed, coasting, flight, if_pos due]
  · refine ⟨s.endTrack u .fired, ?_, s.endTrack_ends u _, s.endTrack_double u, s.endTrack_only u _⟩
    change execTCloseDue u.made s = _
    refine (s.act_out _ out).trans ?_
    rw [settleTrack_of_due sound.1 listed firing flight due]
  · refine State.setValve_works (n := 1) ?_ (by rw [isOpen]; rfl)
    change execCloseAtDue i s = _
    refine (s.act_out _ out).trans ?_
    rw [isOpen, settleValve, if_pos due]
    rfl
  · refine State.setValve_works (n := 0) ?_ (by rw [resting]; rfl)
    change execRecoverUntilDue i s = _
    refine (s.act_out _ out).trans ?_
    rw [resting, restoreValve, if_pos due]

end Sys2Proof.Machine

/-! PROOF. The request of a LAUNCHED track (R145, R152 to R154): refused by the first ground that holds, or granted. -/

namespace Sys2Proof.Machine

/-! ## The firing set (R152) -/

theorem State.fires_iff (s : State) (t : Track) (i : Fin 32) : s.record.fires t i = true ↔ s.inFiringSet t i := by
  simp only [Record.fires, Bool.and_eq_true, decide_eq_true_eq, and_assoc]

theorem State.mem_firingSet (s : State) (t : Track) (i : Fin 32) : i ∈ s.record.firingSet t ↔ s.inFiringSet t i := by
  rw [Record.firingSet, List.mem_filter, ← s.fires_iff]
  exact and_iff_right (List.mem_finRange i)

/-- A list of the firing set, each valve once, is the firing set in some order. -/
theorem State.firingSet_perm {s : State} {t : Track} {set : List (Fin 32)} (distinct : set.Nodup)
    (mem : ∀ i, i ∈ set ↔ s.inFiringSet t i) : (s.record.firingSet t).Perm set :=
  (List.perm_ext_iff_of_nodup ((List.nodup_finRange 32).filter _) distinct).mpr fun i => (s.mem_firingSet t i).trans (mem i).symm

/-- What the four tests count, over any list of the firing set (R153). -/
theorem State.refusal_eq {s : State} {t : Track} {set : List (Fin 32)} (perm : (s.record.firingSet t).Perm set) :
    s.refusal t = if s.mode = .held then some .halt
      else if s.monitor.chuteNotReady = true then some .chute
      else if set.length = 0 ∨ (set.countP fun i => (s.valves[i]).isOpen) + (set.countP fun i => (s.valves[i]).isClosed)
          < (set.length + 1) / 2 then some .recover
      else if s.budgetInForce < s.openCount + (set.countP fun i => (s.valves[i]).isClosed) then some .air
      else none := by
  unfold State.refusal State.sharedCount State.newCount State.chuteInhibit
  dsimp only
  rw [perm.countP_eq, perm.countP_eq, perm.length_eq]

/-! ## The request -/

section
variable {s : State} {t : Track} {f : Flight}

theorem State.request_of_refused (unique : (s.tracks.map Track.made).Nodup) (listed : t ∈ s.tracks) (launched : t.state = .launched)
    (flight : t.flight = some f) {reason : MissReason} (refused : s.refusal t = some reason) :
    s.request t.made = s.missTrack t reason := by
  simp only [State.request, s.findTrack_of_mem t unique listed, launched, flight, refused]

theorem State.request_of_granted (unique : (s.tracks.map Track.made).Nodup) (listed : t ∈ s.tracks) (launched : t.state = .launched)
    (flight : t.flight = some f) (granted : s.refusal t = none) : s.request t.made = s.grant t f := by
  simp only [State.request, s.findTrack_of_mem t unique listed, launched, flight, granted]

/-- The one track fallen due is the whole group. -/
theorem State.tOpenDue_of_one (unique : (s.tracks.map Track.made).Nodup) (listed : t ∈ s.tracks) (launched : t.state = .launched)
    (flight : t.flight = some f) (out : s.inReset = false) (due : atOrBefore f.tOpen s.belt.timebase = true)
    (alone : ∀ v ∈ s.tracks, v ≠ t → s.openDue v = false) : exec .tOpenDue s = .next (s.request t.made) := by
  have one : s.tracks.filter s.openDue = [t] := by
    refine filter_eq_of_sublist (List.singleton_sublist.mpr listed) unique.of_map fun v hv => ?_
    rw [List.mem_singleton]
    refine ⟨?_, fun isDue => Classical.byContradiction fun other => Bool.false_ne_true ((alone v hv other).symm.trans isDue)⟩
    rintro rfl
    simp only [State.openDue, launched, flight]
    exact due
  rw [State.tOpenDue_works out, State.openGroup, one]
  rfl

end

/-! ## The frame of an outcome (R133) -/

/-- A track that has ended has ended still once its frame is offered. -/
theorem State.endedWith.offer {s m : State} {t : Track} {e : TrackEnd} (ended : s.endedWith m t e) (x : Urgent) :
    s.endedWith (m.offer x) t e := by
  obtain ⟨tracks, counts, trace, latest⟩ := ended
  have only := m.offer_only x
  refine ⟨(only .tracks (by simp)).trans tracks, ?_, (only .trace (by simp)).trans trace, (only .latest (by simp)).trans latest⟩
  unfold State.counts at *
  rw [(m.offer_records x).1 _ (by cases e <;> simp)]
  exact counts

/-- An armed track that ends MISSED, and what becomes of its frame (R104, R133). -/
theorem State.missTrack_ends (s : State) (t : Track) (reason : MissReason) :
    s.endedWith (s.missTrack t reason) t (.missed reason)
    ∧ s.changesOnly (s.missTrack t reason) [.tracks, .tallies, .trace, .latest, .tx, .line]
    ∧ (s.takesOffers → (s.missTrack t reason).tx
          = { s.tx with urgent := s.tx.urgent ++ [{ content := .missed reason (s.frameValues t), errors := 0 }] }
        ∧ (s.missTrack t reason).line = s.line ∧ s.talliesOnly (s.missTrack t reason) [.missed]) := by
  refine ⟨(s.endTrack_ends t _).offer _, s.missTrack_only t reason, fun takes => ?_⟩
  have only := s.endTrack_only t (.missed reason)
  rw [State.missTrack, State.offer_of_taken (State.takesOffers_of_same only (by simp) takes)]
  refine ⟨?_, only .line (by simp), (State.endTrack_records_alone (e := .missed reason) (by simp)).1⟩
  dsimp only
  rw [only .tx (by simp), s.report_eq]

/-- Settles O48: the request is refused by the first ground in the order of R153, and the track ends MISSED. -/
theorem refusedTracksEndMissed : Obligations.RefusedTracksEndMissed := by
  intro s u f set reason sound listed launched flight distinct mem new shared grounds t
  have refused : s.refusal u = some reason := by
    rw [State.refusal_eq (State.firingSet_perm distinct mem)]
    by_cases held : s.mode = .held
    · rw [if_pos held] at grounds ⊢
      rw [grounds]
    rw [if_neg held] at grounds ⊢
    by_cases chute : s.monitor.chuteNotReady = true
    · rw [if_pos chute] at grounds ⊢
      rw [grounds]
    rw [if_neg chute] at grounds ⊢
    by_cases few : set.length = 0 ∨ shared + new < (set.length + 1) / 2
    · rw [if_pos few] at grounds ⊢
      rw [grounds]
    rw [if_neg few] at grounds ⊢
    obtain ⟨rfl, above⟩ := grounds
    exact if_pos above
  have works : t = s.missTrack u reason := State.request_of_refused sound.1 listed launched flight refused
  obtain ⟨ended, only, taken⟩ := s.missTrack_ends u reason
  rw [works]
  refine ⟨fun out due alone => ?_, ended, ⟨s.endTrack u (.missed reason), s.endTrack_ends u _,
    (State.endTrack_records_alone (e := .missed reason) (by simp)).1, s.endTrack_only u _, rfl⟩, taken, only⟩
  rw [State.tOpenDue_of_one sound.1 listed launched flight out due alone]
  exact congrArg _ works

/-! ## The grant (R154) -/

/-- A change of the track of one number leaves the tracks of other numbers. -/
theorem filter_other_map (id : Nat) (g : Track → Track) (keeps : ∀ v : Track, v.made = id → (g v).made = id) (ts : List Track) :
    (ts.map fun v => if v.made = id then g v else v).filter (fun v => decide (v.made ≠ id))
      = ts.filter fun v => decide (v.made ≠ id) := by
  induction ts with
  | nil => rfl
  | cons v rest ih =>
    rw [List.map_cons]
    by_cases same : v.made = id
    · rw [if_pos same, List.filter_cons_of_neg (by simp [keeps v same]), List.filter_cons_of_neg (by simp [same]), ih]
    · rw [if_neg same, List.filter_cons_of_pos (by simp [same]), List.filter_cons_of_pos (by simp [same]), ih]

/-- The state with the track granted, before its frame is offered. -/
def State.granted (s : State) (t : Track) (f : Flight) : State :=
  (s.serveValves t f.tClose).updateTrack t.made fun u => { u with state := .firing, valveSet := some (s.grantedSet t) }

/-- The track as the grant leaves it. -/
def State.grantedTrack (s : State) (t : Track) : Track := { t with state := .firing, valveSet := some (s.grantedSet t) }

section
variable {s : State} {t : Track} {f : Flight}

theorem State.grant_eq : s.grant t f = ((s.granted t f).offer (.fired (s.frameValues t))).settleTrack t.made := rfl

theorem State.granted_frame : s.changesOnly (s.granted t f) [.tracks, .valves] := s.granted_only t f.tClose _

theorem State.granted_tracks : (s.granted t f).tracks
    = s.tracks.map fun v => if v.made = t.made then { v with state := .firing, valveSet := some (s.grantedSet t) } else v := by
  rw [State.granted, State.updateTrack_tracks, s.serveValves_only t f.tClose .tracks (by simp)]

theorem State.granted_valves (i : Fin 32) : (s.granted t f).valves[i] = if s.record.fires t i then
      settleValve s.belt.timebase s.record.recovery (serveValve s.belt.timebase f.tClose s.record.maxOpen s.valves[i])
    else s.valves[i] := s.serveValves_valves t f.tClose i

theorem State.granted_eq : s.granted t f = { s with
    tracks := s.tracks.map fun v => if v.made = t.made then { v with state := .firing, valveSet := some (s.grantedSet t) } else v
    valves := (s.granted t f).valves } := by
  simp only [State.granted, State.updateTrack, State.serveValves]

theorem State.granted_made :
    (s.granted t f).tracks.map Track.made = s.tracks.map Track.made := by
  rw [State.granted_tracks, List.map_map]
  exact List.map_congr_left fun v _ => by dsimp only [Function.comp]; split <;> rfl

theorem State.grantedTrack_mem (listed : t ∈ s.tracks) : s.grantedTrack t ∈ (s.granted t f).tracks := by
  rw [State.granted_tracks]
  exact List.mem_map.mpr ⟨t, listed, if_pos rfl⟩

/-- The tracks other than the granted one are those other than it before. -/
theorem State.granted_others : (s.granted t f).tracks.filter (fun v => decide (v.made ≠ t.made))
    = s.tracks.filter fun v => decide (v.made ≠ t.made) := by
  rw [State.granted_tracks]
  exact filter_other_map t.made (fun v => { v with state := .firing, valveSet := some (s.grantedSet t) }) (fun _ same => same) _

/-- The granted track ends at once when its t_close has been reached, else the grant ends with the offer (R9). -/
theorem State.grant_settles (sound : s.tableSound) (listed : t ∈ s.tracks) (flight : t.flight = some f) :
    s.grant t f = if atOrBefore f.tClose s.belt.timebase = true
      then ((s.granted t f).offer (.fired (s.frameValues t))).endTrack (s.grantedTrack t) .fired
      else (s.granted t f).offer (.fired (s.frameValues t)) := by
  have offered := (s.granted t f).offer_only (.fired (s.frameValues t))
  have tracks := offered .tracks (by simp)
  have belt := (offered .belt (by simp)).trans (State.granted_frame .belt (by simp))
  have unique : (((s.granted t f).offer (.fired (s.frameValues t))).tracks.map Track.made).Nodup := by
    rw [tracks, State.granted_made]
    exact sound.1
  have inTable : s.grantedTrack t ∈ ((s.granted t f).offer (.fired (s.frameValues t))).tracks := tracks ▸ State.grantedTrack_mem listed
  have found := State.findTrack_of_mem _ _ unique inTable
  rw [State.grant_eq]
  unfold State.settleTrack
  rw [show t.made = (s.grantedTrack t).made from rfl, found, ← belt]
  simp only [State.grantedTrack, flight]

/-- The open valves after a grant (R153). -/
theorem State.granted_openCount : (s.granted t f).openCount ≤ s.openCount + s.newCount (s.record.firingSet t) := by
  rw [State.granted, State.openCount_of_valves (State.updateTrack_only _ _ _ .valves (by simp))]
  exact s.serveValves_openCount t f.tClose

end

theorem State.mem_grantedSet (s : State) (t : Track) (i : Fin 32) :
    i ∈ s.grantedSet t ↔ s.inFiringSet t i ∧ ((s.valves[i]).isOpen ∨ (s.valves[i]).isClosed) := by
  rw [State.grantedSet, List.mem_filter, s.mem_firingSet, Bool.or_eq_true]

/-- What a track ended from a state ended also from one with the same other tracks and records. -/
theorem State.endedWith_of_same {s m x : State} {t : Track} {e : TrackEnd} {ps : List Part} (only : s.changesOnly m ps)
    (apart : ∀ p ∈ [Part.tallies, .trace, .latest], p ∉ ps)
    (others : m.tracks.filter (fun v => decide (v.made ≠ t.made)) = s.tracks.filter fun v => decide (v.made ≠ t.made))
    (ended : m.endedWith x t e) : s.endedWith x t e := by
  obtain ⟨tracks, counts, trace, latest⟩ := ended
  refine ⟨tracks.trans others, ?_, ?_, latest⟩
  · have tally : ∀ y, m.tally y = s.tally y := fun y => congrArg (·[y.index]) (only .tallies (apart _ (by simp)))
    rw [State.counts, tally] at counts
    exact counts
  · rw [trace, only .trace (apart _ (by simp))]

/-- Settles O47: no ground applies, so the valves of the firing set are served, the track fires and its frame is offered. -/
theorem grantFiresTheTrack : Obligations.GrantFiresTheTrack := by
  intro s u f set sound listed launched flight distinct mem now new shared budget standing cap running ready some_ enough within t
  have perm := State.firingSet_perm distinct mem
  have granted : s.refusal u = none := by
    rw [State.refusal_eq perm, if_neg running, if_neg (by simp [ready]), if_neg]
    · exact if_neg (Nat.not_lt.mpr within)
    · rw [not_or, List.length_eq_zero_iff, Nat.not_lt]
      exact ⟨some_, enough⟩
  let fired := s.granted u f
  let offered := fired.offer (.fired (s.frameValues u))
  have works : t = s.grant u f := State.request_of_granted sound.1 listed launched flight granted
  have isAhead : ahead f.tClose now → t = offered := fun later => by
    rw [works, State.grant_settles sound listed flight, if_neg (by simpa [ahead] using later)]
  have isDue : atOrBefore f.tClose now → t = offered.endTrack (s.grantedTrack u) .fired := fun due => by
    rw [works, State.grant_settles sound listed flight, if_pos due]
  have sent : fired.changesOnly offered linkParts := fired.offer_only _
  have settled : offered.changesOnly t endParts := works ▸ State.settleTrack_only _ _
  have reached : fired.changesOnly t [.tx, .line, .tallies, .tracks, .trace, .latest] := sent.then settled (by simp) (by simp)
  have valves : t.valves = fired.valves := reached .valves (by simp)
  have noDouble : u.double = false := by
    obtain ⟨-, fits, -⟩ := sound
    obtain ⟨-, -, -, -, -, -, double, -⟩ := fits u listed
    simpa [launched] using double
  have ends : atOrBefore f.tClose now → offered.endedWith t u .fired := fun due => by
    rw [isDue due]
    exact offered.endTrack_ends (s.grantedTrack u) .fired
  have endsAlone : atOrBefore f.tClose now → offered.talliesOnly t [.fired u.cls] ∧ offered.changesOnly t endParts := fun due => by
    rw [isDue due]
    exact ⟨(State.endTrack_records_alone (t := s.grantedTrack u) (e := .fired) (by simp [State.grantedTrack, noDouble])).1,
      offered.endTrack_only _ _⟩
  refine ⟨fun out due alone => State.tOpenDue_of_one sound.1 listed launched flight out due alone, s.grantedSet u, fired,
    fun i => (s.mem_grantedSet u i).trans (and_congr_left' (mem i).symm), ?_, fun i out => ?_, fun i isIn closed => ?_,
    fun i isIn o c isOpen => ?_, fun i isIn r resting => ?_, ?_, isAhead, fun due => ⟨ends due, endsAlone due⟩, fun takes => ?_, ?_⟩
  · rw [valves]
    exact State.granted_eq
  · rw [valves, State.granted_valves, if_neg]
    rwa [s.fires_iff, ← mem]
  · rw [valves, State.granted_valves, if_pos ((s.fires_iff u i).mpr ((mem i).mp isIn)), closed]
    rfl
  · rw [valves, State.granted_valves, if_pos ((s.fires_iff u i).mpr ((mem i).mp isIn)), isOpen]
    rfl
  · rw [valves, State.granted_valves, if_pos ((s.fires_iff u i).mpr ((mem i).mp isIn)), resting]
    rfl
  · rw [State.openCount_of_valves valves]
    refine Nat.le_trans State.granted_openCount ?_
    rw [State.newCount, perm.countP_eq]
    exact within
  · have taken : offered = { fired with tx := { fired.tx with
        urgent := fired.tx.urgent ++ [{ content := .fired (s.frameValues u), errors := 0 }] } } :=
      State.offer_of_taken (State.takesOffers_of_same State.granted_frame (by simp) takes) _
    have sentAlone : fired.changesOnly offered [.tx] := taken ▸ fired.setTx_only _
    have upTo : s.changesOnly offered [.tracks, .valves, .tx] := State.granted_frame.then sentAlone (by simp) (by simp)
    have firedTx : fired.tx = s.tx := State.granted_frame .tx (by simp)
    have offeredTx : offered.tx = { s.tx with urgent := s.tx.urgent ++ [{ content := .fired (s.frameValues u), errors := 0 }] } := by
      rw [taken, ← firedTx]
    have others : offered.tracks.filter (fun v => decide (v.made ≠ u.made)) = s.tracks.filter fun v => decide (v.made ≠ u.made) := by
      rw [sentAlone .tracks (by simp)]
      exact State.granted_others
    refine ⟨(settled .tx (by simp)).trans offeredTx, (settled .line (by simp)).trans (upTo .line (by simp)), fun later => ?_,
      fun due => ⟨State.endedWith_of_same upTo (by simp) others (ends due), ?_, upTo.then settled (by simp) (by simp)⟩⟩
    · rw [isAhead later]
      exact ⟨sentAlone .tracks (by simp), upTo⟩
    · have before : s.records offered [.fired u.cls] [] := upTo.records (by simp) (by simp) _ _
      exact fun x hx => ((endsAlone due).1 x hx).trans (before.1 x hx)
  · exact State.granted_frame.then reached (by simp) (by simp)

end Sys2Proof.Machine

/-! PROOF. Verdicts and launches at an advance (R102, R135 to R138): each track reached is worked whole before the next, and one
track's work leaves the others in the table as they were. -/

namespace Sys2Proof.Machine

/-! ## One track's work leaves the others -/

/-- The tracks of other numbers are found as before. -/
def State.leavesOthers (s t : State) (id : Nat) : Prop := ∀ k, k ≠ id → t.findTrack k = s.findTrack k

section
variable {s t u : State} {id : Nat}

theorem State.leavesOthers.refl (s : State) (id : Nat) : s.leavesOthers s id := fun _ _ => rfl

theorem State.leavesOthers.trans (h : s.leavesOthers t id) (k : t.leavesOthers u id) : s.leavesOthers u id :=
  fun n other => (k n other).trans (h n other)

theorem State.leavesOthers_of_tracks (tracks : t.tracks = s.tracks) : s.leavesOthers t id := fun k _ => by
  rw [State.findTrack, tracks, State.findTrack]

theorem State.leavesOthers_of_only {ps : List Part} (only : s.changesOnly t ps) (apart : Part.tracks ∉ ps) : s.leavesOthers t id :=
  State.leavesOthers_of_tracks (only .tracks apart)

end

theorem State.updateTrack_leavesOthers (s : State) (id : Nat) (f : Track → Track) (keeps : ∀ v : Track, v.made = id → (f v).made = id) :
    s.leavesOthers (s.updateTrack id f) id := by
  intro k other
  unfold State.findTrack
  rw [State.updateTrack_tracks]
  induction s.tracks with
  | nil => rfl
  | cons v rest ih =>
    rw [List.map_cons, List.find?_cons, List.find?_cons, ih]
    by_cases same : v.made = id
    · have apart : (id == k) = false := beq_false_of_ne other.symm
      rw [if_pos same, keeps v same, same, apart]
    · rw [if_neg same]

theorem State.endTrack_leavesOthers (s : State) (t : Track) (e : TrackEnd) : s.leavesOthers (s.endTrack t e) t.made := by
  intro k other
  obtain ⟨tracks, -⟩ := s.endTrack_ends t e
  unfold State.findTrack
  rw [tracks, List.find?_filter]
  congr 1
  funext v
  by_cases same : v.made = k
  · simp [same, other]
  · simp [same]

theorem State.missTrack_leavesOthers (s : State) (t : Track) (reason : MissReason) :
    s.leavesOthers (s.missTrack t reason) t.made :=
  (s.endTrack_leavesOthers t _).trans (State.leavesOthers_of_only (State.offer_only _ _) (by simp))

theorem State.settleTrack_leavesOthers (s : State) (id : Nat) : s.leavesOthers (s.settleTrack id) id := by
  unfold State.settleTrack
  split
  · exact .refl _ _
  next t found =>
    split
    · split
      · exact State.made_of_findTrack found ▸ s.endTrack_leavesOthers t .fired
      · exact .refl _ _
    · exact .refl _ _

theorem State.grant_leavesOthers (s : State) (t : Track) (f : Flight) : s.leavesOthers (s.grant t f) t.made := by
  have served := State.leavesOthers_of_only (id := t.made) (s.serveValves_only t f.tClose) (by simp)
  have updated := (s.serveValves t f.tClose).updateTrack_leavesOthers t.made
    (fun u => { u with state := .firing, valveSet := some (s.grantedSet t) }) fun _ same => same
  have offered := State.leavesOthers_of_only (id := t.made) ((s.granted t f).offer_only (.fired (s.frameValues t))) (by simp)
  exact (served.trans updated).trans (offered.trans (State.settleTrack_leavesOthers _ _))

theorem State.request_leavesOthers (s : State) (id : Nat) : s.leavesOthers (s.request id) id := by
  unfold State.request
  split
  · exact .refl _ _
  next t found =>
    rw [← State.made_of_findTrack found]
    split
    · split
      · exact s.missTrack_leavesOthers t _
      · exact s.grant_leavesOthers t _
    · exact .refl _ _

theorem State.openIfDue_leavesOthers (s : State) (id : Nat) : s.leavesOthers (s.openIfDue id) id := by
  unfold State.openIfDue
  split
  · exact .refl _ _
  next t found =>
    split
    · exact .refl _ _
    · split
      · split
        · exact s.request_leavesOthers id
        · exact State.made_of_findTrack found ▸ s.endTrack_leavesOthers t .passed
        · exact .refl _ _
      · exact .refl _ _

/-- The state with a track launched, before its t_open is looked at. -/
def State.flown (s : State) (t : Track) (launch : Time) (delta : Nat) (next : TrackState) : State :=
  s.updateTrack t.made fun v =>
    { v with state := next, flight := some (s.record.flightOf t launch delta), trimmed := v.trimmed || s.record.trims t.length delta }

theorem State.fly_leavesOthers (s : State) (t : Track) (launch : Time) (delta : Nat) (next : TrackState) :
    s.leavesOthers (s.fly t launch delta next) t.made := by
  have updated : s.leavesOthers (s.flown t launch delta next) t.made := s.updateTrack_leavesOthers _ _ fun _ same => same
  exact updated.trans (State.openIfDue_leavesOthers _ _)

theorem State.launchArmed_leavesOthers (s : State) (t : Track) (launch : Time) (measure : Option Time) :
    s.leavesOthers (s.launchArmed t launch measure) t.made := by
  unfold State.launchArmed
  split
  · exact s.missTrack_leavesOthers t _
  · split
    · exact s.missTrack_leavesOthers t _
    · exact s.fly_leavesOthers t _ _ _

theorem State.launchWatching_leavesOthers (s : State) (t : Track) (launch : Time) (measure : Option Time) :
    s.leavesOthers (s.launchWatching t launch measure) t.made := by
  unfold State.launchWatching
  split
  · exact s.endTrack_leavesOthers t _
  · split
    · exact s.endTrack_leavesOthers t _
    · exact s.fly_leavesOthers t _ _ _

theorem State.judge_leavesOthers (s : State) (t : Track) : s.leavesOthers (s.judge t) t.made := by
  have updated := s.updateTrack_leavesOthers t.made (fun _ => s.judged t) fun _ _ => (by rw [State.judged_frame])
  by_cases claims : (s.judged t).state = .armed ∧ s.record.spansWindow t = true
  · rw [State.judge_of_claim claims.1 claims.2]
    exact updated.trans (State.leavesOthers_of_only (State.offer_only _ _) (by simp))
  · rw [State.judge_of_quiet claims]
    exact updated

/-! ## The tracks reached by an advance -/

theorem State.beltDue_iff (s : State) (t : Track) : s.beltDue t = true ↔
    (t.state = .collecting ∧ t.aLead - BitVec.ofNat 24 s.record.verdictDistance = s.belt.count)
      ∨ ((t.state = .armed ∨ t.state = .watching) ∧ t.aLead = s.belt.count) := by
  unfold State.beltDue Record.verdictCount
  cases t.state <;> simp

/-- The verdict or launch of a track reached (R102). -/
def State.reach (s : State) (stamp : Time) (measure : Option Time) (t : Track) : State :=
  if t.state = .collecting then s.judge t
  else if t.state = .armed then s.launchArmed t stamp measure
  else s.launchWatching t stamp measure

theorem State.reach_leavesOthers (s : State) (stamp : Time) (measure : Option Time) (t : Track) :
    s.leavesOthers (s.reach stamp measure t) t.made := by
  unfold State.reach
  split_ifs
  · exact s.judge_leavesOthers t
  · exact s.launchArmed_leavesOthers t _ _
  · exact s.launchWatching_leavesOthers t _ _

theorem State.reach_only (s : State) (stamp : Time) (measure : Option Time) (t : Track) :
    s.changesOnly (s.reach stamp measure t) flightParts := by
  unfold State.reach
  split_ifs
  · exact (s.judge_only t).mono (by simp)
  · exact s.launchArmed_only t _ _
  · exact s.launchWatching_only t _ _

theorem State.beltEvent_of_due {s : State} {t : Track} {stamp : Time} (found : s.findTrack t.made = some t)
    (due : s.beltDue t = true) : State.beltEvent stamp s t.made = s.reach stamp s.belt.measure t := by
  simp only [State.beltEvent, found, due, if_true, State.reach]
  cases state : t.state <;> first | rfl | (simp [State.beltDue, state] at due)

/-- The tracks reached, found and due as at the advance, are worked one after another. -/
theorem State.beltEvent_foldl {stamp : Time} (s : State) (ts : List Track) : ∀ x : State, x.belt = s.belt → x.record = s.record →
    (ts.map Track.made).Nodup → (∀ t ∈ ts, x.findTrack t.made = some t) → (∀ t ∈ ts, s.beltDue t = true) →
    (ts.map Track.made).foldl (State.beltEvent stamp) x = ts.foldl (fun x t => x.reach stamp s.belt.measure t) x := by
  induction ts with
  | nil => exact fun _ _ _ _ _ _ => rfl
  | cons t rest ih =>
    intro x belt record distinct found due
    rw [List.map_cons, List.nodup_cons] at distinct
    have isDue : x.beltDue t = true := by
      rw [State.beltDue_iff, belt, record, ← State.beltDue_iff]
      exact due t List.mem_cons_self
    rw [List.map_cons, List.foldl_cons, List.foldl_cons, State.beltEvent_of_due (found t List.mem_cons_self) isDue, belt]
    have only := x.reach_only stamp s.belt.measure t
    refine ih _ ((only .belt (by simp)).trans belt) ((only .record (by simp)).trans record) distinct.2 (fun v hv => ?_)
      fun v hv => due v (List.mem_cons_of_mem _ hv)
    rw [x.reach_leavesOthers stamp s.belt.measure t v.made fun same => distinct.1 (same ▸ List.mem_map_of_mem hv)]
    exact found v (List.mem_cons_of_mem _ hv)

/-! ## The launch (R136 to R138) -/

theorem deltaUsed_none {measure : Option Time} (slow : ∀ d, measure = some d → 160000 < d.toNat) : deltaUsed measure = none := by
  cases measure with
  | none => rfl
  | some d => exact if_neg (Nat.not_le.mpr (slow d rfl))

theorem deltaUsed_some {d : Time} (valid : d.toNat ≤ 160000) : deltaUsed (some d) = some (max 2666 d.toNat) := if_pos valid

/-- The track as its launch leaves it. -/
def State.flownTrack (s : State) (t : Track) (launch : Time) (delta : Nat) (next : TrackState) : Track :=
  { t with state := next, flight := some (s.record.flightOf t launch delta), trimmed := t.trimmed || s.record.trims t.length delta }

theorem State.fly_eq {s : State} {t : Track} (sound : s.tableSound) (listed : t ∈ s.tracks) (launch : Time) (delta : Nat)
    (next : TrackState) : s.fly t launch delta next =
      if atOrBefore (s.record.flightOf t launch delta).tOpen s.belt.timebase = true then match next with
        | .launched => (s.flown t launch delta next).request t.made
        | .coasting => (s.flown t launch delta next).endTrack (s.flownTrack t launch delta next) .passed
        | _ => s.flown t launch delta next
      else s.flown t launch delta next := by
  have unique : ((s.flown t launch delta next).tracks.map Track.made).Nodup := by
    rw [State.flown, State.map_updateTrack sound listed _ Track.made rfl]
    exact sound.1
  have inTable : s.flownTrack t launch delta next ∈ (s.flown t launch delta next).tracks :=
    List.mem_map.mpr ⟨t, listed, if_pos rfl⟩
  have found := State.findTrack_of_mem _ _ unique inTable
  change (s.flown t launch delta next).openIfDue (s.flownTrack t launch delta next).made = _
  unfold State.openIfDue
  rw [found]
  cases next <;> rfl

/-- Settles O46: the tracks reached one after another; a launch ends its track or puts it in flight. -/
theorem launchesFollowTheMeasure : Obligations.LaunchesFollowTheMeasure := by
  intro s stamp sound
  refine ⟨fun reached sub which => ?_, fun u listed => ⟨fun measure reason ground => ?_, ?_⟩⟩
  · have due : s.tracks.filter s.beltDue = reached :=
      filter_eq_of_sublist sub (nodup_of_sound sound) fun v hv => (which v hv).trans (s.beltDue_iff v).symm
    rw [State.beltEvents, due]
    refine State.beltEvent_foldl s reached s rfl rfl (sound.1.sublist (sub.map _))
      (fun t ht => s.findTrack_of_mem t sound.1 (sub.subset ht)) fun t ht => ?_
    rw [← due] at ht
    exact (List.mem_filter.mp ht).2
  · obtain ⟨missed, passed⟩ : s.launchArmed u stamp measure = s.missTrack u reason
        ∧ s.launchWatching u stamp measure = s.endTrack u .passed := by
      rcases ground with ⟨rfl, slow⟩ | ⟨rfl, ⟨d, rfl, valid⟩, full⟩
      · simp only [State.launchArmed, State.launchWatching, deltaUsed_none slow, and_self]
      · simp only [State.launchArmed, State.launchWatching, deltaUsed_some valid]
        exact ⟨if_pos full, if_pos full⟩
    obtain ⟨ended, only, taken⟩ := s.missTrack_ends u reason
    rw [missed, passed]
    refine ⟨ended, only, fun takes => ?_, s.endTrack_ends u _, s.endTrack_only u _⟩
    rw [(taken takes).1]
  · intro d valid room delta f trims flown
    have armed : s.launchArmed u stamp (some d) = s.fly u stamp delta .launched := by
      simp only [State.launchArmed, deltaUsed_some valid]
      exact if_neg (Nat.not_le.mpr room)
    have watching : s.launchWatching u stamp (some d) = s.fly u stamp delta .coasting := by
      simp only [State.launchWatching, deltaUsed_some valid]
      exact if_neg (Nat.not_le.mpr room)
    rw [armed, watching, State.fly_eq sound listed, State.fly_eq sound listed]
    refine ⟨fun later => ?_, fun due => ?_⟩
    · have notDue : ¬ atOrBefore f.tOpen s.belt.timebase = true := by simpa [ahead] using later
      exact ⟨if_neg notDue, if_neg notDue⟩
    · rw [if_pos due, if_pos due]
      refine ⟨rfl, State.endTrack_ends _ (s.flownTrack u stamp delta .coasting) .passed, ?_⟩
      exact (s.updateTrack_only _ _).then (State.endTrack_only _ _ _) (by simp) (by simp)

end Sys2Proof.Machine

/-! PROOF. Curtain coordination (chapter 7): which track a frame finds, and what a CLAIM, a FIRED and a MISSED taken do to it. -/

namespace Sys2Proof.Machine

/-! ## The track found (R120, R121) -/

section
variable {s : State} {o : OutcomeBody} {cSof : Count} {t : Track}

theorem State.matchesAnchor_iff : s.record.matchesAnchor o cSof t = true ↔ s.meetsByAnchor o cSof t := by
  simp only [Record.matchesAnchor, Record.overlapsFrame, overlapWithin, OutcomeBody.placedTrail, OutcomeBody.placedLead,
    Bool.and_eq_true, beq_iff_eq, and_assoc, State.meetsByAnchor, State.intervalsMeet]

theorem State.matchesPlace_iff : s.record.matchesPlace o cSof t = true ↔ s.meetsByPlace o cSof t := by
  simp only [Record.matchesPlace, Record.overlapsFrame, overlapWithin, lanesMeet, OutcomeBody.placedTrail, OutcomeBody.placedLead,
    Bool.and_eq_true, decide_eq_true_eq, State.meetsByPlace, State.intervalsMeet, lanesTouch]

theorem State.matchFrame_of_finds (finds : s.frameFinds o cSof t) : s.matchFrame o cSof = some t := by
  obtain ⟨front, back, table, ⟨meets, earlier⟩ | ⟨none_, meets, earlier⟩⟩ := finds
  · have anchored : s.tracks.find? (s.record.matchesAnchor o cSof) = some t := by
      refine List.find?_eq_some_iff_append.mpr ⟨State.matchesAnchor_iff.mpr meets, front, back, table, fun v hv => ?_⟩
      simpa using State.matchesAnchor_iff.not.mpr (earlier v hv)
    simp only [State.matchFrame, anchored]
  · have noAnchor : s.tracks.find? (s.record.matchesAnchor o cSof) = none :=
      List.find?_eq_none.mpr fun v hv => State.matchesAnchor_iff.not.mpr (none_ v hv)
    simp only [State.matchFrame, noAnchor]
    refine List.find?_eq_some_iff_append.mpr ⟨State.matchesPlace_iff.mpr meets, front, back, table, fun v hv => ?_⟩
    simpa using State.matchesPlace_iff.not.mpr (earlier v hv)

theorem State.matchFrame_of_none (finds : s.frameFindsNone o cSof) : s.matchFrame o cSof = none := by
  have noAnchor : s.tracks.find? (s.record.matchesAnchor o cSof) = none :=
    List.find?_eq_none.mpr fun v hv => State.matchesAnchor_iff.not.mpr (finds v hv).1
  simp only [State.matchFrame, noAnchor]
  exact List.find?_eq_none.mpr fun v hv => State.matchesPlace_iff.not.mpr (finds v hv).2

theorem State.matched_of_finds (finds : s.frameFinds o cSof t) (effect : State → Track → State) :
    s.matched o cSof effect = effect s t := by
  simp only [State.matched, State.matchFrame_of_finds finds]

theorem State.matched_of_none (finds : s.frameFindsNone o cSof) (effect : State → Track → State) :
    s.matched o cSof effect = s.bump .unmatched := by
  simp only [State.matched, State.matchFrame_of_none finds]

/-! ## The effects -/

/-- In flight the class is taken up while the t_open worked again lies ahead (R125, R147). -/
theorem State.recompute_of_ahead {f : Flight} (flight : t.flight = some f) {c : PieceClass} (kept tooLate : Tally)
    (later : ahead (s.record.recomputed f c).tOpen s.belt.timebase = true) : s.recompute t c kept tooLate
      = (s.updateTrack t.made fun u => { u with state := .launched, cls := c, flight := some (s.record.recomputed f c) }).bump kept := by
  simp only [State.recompute, flight]
  exact if_pos later

theorem State.recompute_of_due {f : Flight} (flight : t.flight = some f) {c : PieceClass} (kept tooLate : Tally)
    (due : atOrBefore (s.record.recomputed f c).tOpen s.belt.timebase = true) : s.recompute t c kept tooLate = s.bump tooLate := by
  simp only [State.recompute, flight]
  exact if_neg (by simp [ahead, due])

theorem claimMark_eq (m : Option Mark) (c : PieceClass) : claimMark m c = match m with
    | some (.rescue d) => some (.rescue d)
    | some (.claimed _) | none => some (.claimed c) := by
  cases m with
  | none => rfl
  | some m => cases m <;> rfl

end

section
variable {s : State} {sender : Nat} {o : OutcomeBody} {cSof : Count} {tSof : Time} {rest : List InboxEntry}

theorem State.claimTaken_works (out : s.inReset = false) (operating : s.mode ≠ .setup)
    (head : s.inbox = ⟨sender, .claim o, cSof, tSof⟩ :: rest) : exec .claimTaken s = .next (if o.curtain = s.record.curtain
      then State.matched { s with inbox := rest } o cSof fun s t => s.claimEffect t o.cls else { s with inbox := rest }) := by
  change execClaimTaken s = _
  refine (s.act_out _ out).trans ?_
  simp only [State.operating_of operating, head]

theorem State.firedTaken_works (out : s.inReset = false) (operating : s.mode ≠ .setup)
    (head : s.inbox = ⟨sender, .fired o, cSof, tSof⟩ :: rest) : exec .firedTaken s = .next (if o.curtain < s.record.curtain
      then State.matched { s with inbox := rest } o cSof fun s t => s.firedEffect t else { s with inbox := rest }) := by
  change execFiredTaken s = _
  refine (s.act_out _ out).trans ?_
  simp only [State.operating_of operating, head]

theorem State.missedTaken_works {reason : MissReason} (out : s.inReset = false) (operating : s.mode ≠ .setup)
    (head : s.inbox = ⟨sender, .missed reason o, cSof, tSof⟩ :: rest) :
    exec .missedTaken s = .next (if o.curtain < s.record.curtain ∧ s.record.isRescue o.cls = true
      then State.matched { s with inbox := rest } o cSof fun s t => s.missedEffect t o.cls else { s with inbox := rest }) := by
  change execMissedTaken s = _
  refine (s.act_out _ out).trans ?_
  simp only [State.operating_of operating, head]

end

/-- Settles O51: the row of Table 7-2 that the state of the track found gives. -/
theorem claimTakenFollowsItsTable : Obligations.ClaimTakenFollowsItsTable := by
  intro s sender o cSof tSof rest out operating head s1
  have works := State.claimTaken_works out operating head
  refine ⟨fun other => works.trans (congrArg _ (if_neg other)), fun own => ⟨fun none_ => ?_, fun u sound finds => ?_⟩⟩
  · refine works.trans (congrArg _ ((if_pos own).trans ?_))
    exact State.matched_of_none (s := s1) none_ _
  · have found : exec .claimTaken s = .next (s1.claimEffect u o.cls) :=
      works.trans (congrArg _ ((if_pos own).trans (State.matched_of_finds (s := s1) finds _)))
    rw [found]
    refine ⟨fun collecting => ?_, fun watching target => ?_, fun quiet noTarget => ?_, ?_, fun armed => ?_, fun firing => ?_⟩
    · simp only [State.claimEffect, collecting]
      refine congrArg (fun g => Host.Outcome.next (s1.updateTrack u.made g)) (funext fun v => ?_)
      exact congrArg (fun m => { v with mark := m }) (claimMark_eq _ _)
    · simp only [State.claimEffect, watching]
      exact congrArg _ (if_pos target)
    · have no : ¬ s1.record.isTarget o.cls = true := Bool.eq_false_iff.mp noTarget
      rcases quiet with state | state <;> simp only [State.claimEffect, state] <;> exact congrArg _ (if_neg no)
    · intro coasting target f flight tOpen
      have effect : s1.claimEffect u o.cls = s1.recompute u o.cls .claimAdopt .claimLate := by
        simp only [State.claimEffect, coasting]
        exact if_pos target
      rw [effect]
      exact ⟨fun later => congrArg _ (State.recompute_of_ahead flight _ _ later),
        fun due => congrArg _ (State.recompute_of_due flight _ _ due)⟩
    · have effect : s1.claimEffect u o.cls = if u.cls = o.cls then s1 else s1.bump .disagree := by
        rcases armed with state | state <;> simp only [State.claimEffect, state]
      rw [effect]
      exact ⟨fun same => congrArg _ (if_pos same), fun other => congrArg _ (if_neg other)⟩
    · simp only [State.claimEffect, firing]

/-- Settles O52: the track found ends TAKEN, or carries DOUBLE while FIRING. -/
theorem firedTakenFollowsItsTable : Obligations.FiredTakenFollowsItsTable := by
  intro s sender o cSof tSof rest out operating head s1
  have works := State.firedTaken_works out operating head
  refine ⟨fun other => works.trans (congrArg _ (if_neg (Nat.not_lt.mpr other))),
    fun upstream => ⟨fun none_ => ?_, fun u sound finds => ?_⟩⟩
  · refine works.trans (congrArg _ ((if_pos upstream).trans ?_))
    exact State.matched_of_none (s := s1) none_ _
  · have found : exec .firedTaken s = .next (s1.firedEffect u) :=
      works.trans (congrArg _ ((if_pos upstream).trans (State.matched_of_finds (s := s1) finds _)))
    rw [found]
    refine ⟨fun open_ => ?_, fun firing => ?_⟩
    · have effect : s1.firedEffect u = s1.endTrack u .taken := by
        unfold State.firedEffect
        cases state : u.state <;> first | rfl | exact absurd state open_
      exact ⟨_, congrArg _ effect, s1.endTrack_ends u .taken, s1.endTrack_only u .taken⟩
    · simp only [State.firedEffect, firing]

/-- Settles O53: the row of Table 7-4 that the state of the track found gives. -/
theorem missedTakenFollowsItsTable : Obligations.MissedTakenFollowsItsTable := by
  intro s sender reason o cSof tSof rest out operating head s1
  have works := State.missedTaken_works out operating head
  refine ⟨fun other => works.trans (congrArg _ (if_neg ?_)), fun upstream rescues => ⟨fun none_ => ?_, fun u sound finds => ?_⟩⟩
  · rintro ⟨upstream, rescues⟩
    rcases other with other | other
    · exact absurd upstream (Nat.not_lt.mpr other)
    · exact Bool.false_ne_true (other.symm.trans rescues)
  · refine works.trans (congrArg _ ((if_pos ⟨upstream, rescues⟩).trans ?_))
    exact State.matched_of_none (s := s1) none_ _
  · have found : exec .missedTaken s = .next (s1.missedEffect u o.cls) :=
      works.trans (congrArg _ ((if_pos ⟨upstream, rescues⟩).trans (State.matched_of_finds (s := s1) finds _)))
    rw [found]
    refine ⟨fun collecting => ?_, fun watching => ?_, ?_, fun other => ?_⟩
    · simp only [State.missedEffect, collecting]
    · simp only [State.missedEffect, watching, State.arm]
    · intro coasting f flight tOpen
      have effect : s1.missedEffect u o.cls = s1.recompute u o.cls .rescue .rescueLate := by
        simp only [State.missedEffect, coasting]
      rw [effect]
      exact ⟨fun later => congrArg _ (State.recompute_of_ahead flight _ _ later),
        fun due => congrArg _ (State.recompute_of_due flight _ _ due)⟩
    · rcases other with state | state | state <;> simp only [State.missedEffect, state]

end Sys2Proof.Machine

/-! PROOF. The bytes of the port's responses (Tables 10-6 to 10-9): the values of the model beside the tables, place by place. -/

namespace Sys2Proof.Machine

/-! ## Bytes -/

theorem bigEndian_two (v : Nat) : bigEndian 2 v = bytes2 v := by simp [bigEndian, bytes2, byteOf, List.range_succ]

theorem bigEndian_three (v : Nat) : bigEndian 3 v = bytes3 v := by simp [bigEndian, bytes3, bytes2, byteOf, List.range_succ]

theorem bigEndian_four (v : Nat) : bigEndian 4 v = bytes4 v := by
  simp [bigEndian, bytes4, bytes3, bytes2, byteOf, List.range_succ]

/-- A byte's marks, and the number made of them. -/
theorem markByte_eq (f : Fin 8 → Bool) : markByte f = byteOf (marks (List.ofFn f)) := by
  refine BitVec.eq_of_toNat_eq ?_
  have weight : Nat.ofBits f = marks (List.ofFn f) := by
    simp only [Nat.ofBits, Fin.foldr_succ, Fin.foldr_zero, marks, List.ofFn_succ, List.ofFn_zero, List.foldr_cons, List.foldr_nil]
    omega
  have small : Nat.ofBits f < 2 ^ 8 := Nat.ofBits_lt_two_pow f
  rw [markByte, BitVec.toNat_ofFnLE, byteOf_toNat, ← weight]
  exact (Nat.mod_eq_of_lt small).symm

/-! ## Values by their places -/

/-- Places counted off give the list read through. -/
theorem flatMap_places {α : Type} (l : List (List α)) : (List.range l.length).flatMap (fun k => (l[k]?).getD []) = l.flatten := by
  induction l with
  | nil => rfl
  | cons x rest ih =>
    rw [List.length_cons, List.range_succ_eq_map, List.flatMap_cons, List.flatMap_map, List.flatten_cons, ← ih]
    rfl

theorem map_places {α β : Type} (l : List (List α)) (f : List α → β) :
    (List.range l.length).map (fun k => f ((l[k]?).getD [])) = l.map f := by
  refine List.ext_getElem (by simp) fun k _ within => ?_
  simp only [List.length_map] at within
  simp [within]

theorem State.stateValues_bytes (s : State) : stateValues.flatMap s.valueBytes = s.stateReport.flatten := by
  rw [← flatMap_places, stateValues, List.flatMap_map]
  rfl

theorem State.peerValues_bytes (s : State) : peerValues.flatMap s.valueBytes
    = (List.finRange 24).flatMap fun id => ((s.peers[id]).report (s.inHaltSet id.val)).flatten := by
  rw [peerValues, List.flatMap_assoc]
  refine List.flatMap_congr fun id _ => ?_
  rw [← flatMap_places, List.flatMap_map]
  have eight : ((s.peers[id]).report (s.inHaltSet id.val)).length = 8 := by
    unfold Peer.report
    cases (s.peers[id]).about <;> rfl
  rw [eight]
  rfl

/-! ## READ-STATE (Table 10-8) -/

theorem State.transmitterCode_eq (s : State) : byteOf s.transmitterCode
    = if s.tx.attempt ≠ none then 2 else if s.tx.mute then 3 else if s.mode = .setup then 0 else 1 := by
  unfold State.transmitterCode State.operating
  cases s.tx.attempt <;> cases s.tx.mute <;> cases s.mode <;> rfl

/-- Bytes 0 to 30. -/
theorem State.reportBelt_reportLink (s : State) : s.reportBelt.flatten ++ s.reportLink.flatten = s.bytes0 := by
  have mode : byteOf s.mode.code = match s.mode with | .setup => 0 | .run => 1 | .held => 2 := by cases s.mode <;> rfl
  have ring : byteOf ((if s.belt.motion = .stopped then 128 else 0) + s.belt.ring.length)
      = BitVec.ofNat 8 (s.belt.ring.length + match s.belt.motion with | .stopped => 128 | .moving _ => 0) := by
    cases s.belt.motion <;> simp [byteOf, Nat.add_comm]
  have link : byteOf s.scan.link.code = match s.scan.link with | .idle => 0 | .exchange _ _ _ => 1 := by cases s.scan.link <;> rfl
  have beacon : byteOf s.tx.beacon.isSome.toNat = if s.tx.beacon = none then 0 else 1 := by cases s.tx.beacon <;> rfl
  simp only [State.reportBelt, State.reportLink, State.bytes0, mode, ring, link, beacon, s.transmitterCode_eq, bigEndian_three,
    bigEndian_four]
  rfl

/-- Bytes 31 to 37. -/
theorem State.reportHalt_eq (s : State) : s.reportHalt.flatten = s.bytes31 := by
  have causes : byteOf (marks [s.monitor.doorOpen, s.monitor.stopRequested, s.operatorHalt])
      = markByte ![s.monitor.doorOpen, s.monitor.stopRequested, s.operatorHalt, false, false, false, false, false] := by
    rw [markByte_eq]
    rfl
  have levels : byteOf (marks ((List.range 8).map fun i => s.record.inputTrue s.monitor.accepted i))
      = markByte fun i => s.record.inputTrue s.monitor.accepted i.val := by
    rw [markByte_eq]
    rfl
  have conditions : byteOf (marks [s.monitor.airLow, s.monitor.doorOpen, s.monitor.chuteNotReady, s.monitor.stopRequested]
      + 16 * s.monitor.watch.code) = markByte ![s.monitor.airLow, s.monitor.doorOpen, s.monitor.chuteNotReady,
        s.monitor.stopRequested, decide (s.monitor.watch = .matched), decide (s.monitor.watch = .unmatched), false, false] := by
    rw [markByte_eq]
    refine congrArg byteOf ?_
    cases s.monitor.watch <;> simp [marks, WatchState.code] <;> omega
  simp only [State.reportHalt, State.bytes31, causes, levels, conditions, bigEndian_three]
  rfl

theorem State.tracksIn_eq (s : State) (x : TrackState) : s.tracksIn x = (s.tracks.filter fun t => t.state = x).length :=
  List.countP_eq_length_filter

theorem State.valveByte_eq (s : State) (k : Nat) : s.valveByte k
    = s.valveCode (4 * k) + 4 * s.valveCode (4 * k + 1) + 16 * s.valveCode (4 * k + 2) + 64 * s.valveCode (4 * k + 3) := by
  have code : ∀ i : Nat, ((s.valves[i]?).getD .closed).code = s.valveCode i := fun i => by
    unfold State.valveCode
    cases s.valves[i]? with
    | none => rfl
    | some v => cases v <;> rfl
  simp only [State.valveByte, code, Nat.add_zero]

/-- Bytes 38 to 60. -/
theorem State.reportTracks_eq (s : State) : s.reportTracks.flatten = s.bytes38 := by
  have next : (s.flightList.head?.map fun e => e.due.toNat).getD 0 = match s.flightList with | [] => 0 | e :: _ => e.due.toNat := by
    cases s.flightList <;> rfl
  have inhibits : byteOf (marks [s.monitor.airLow, s.chuteInhibit])
      = markByte ![s.monitor.airLow, s.monitor.chuteNotReady, false, false, false, false, false, false] := by
    rw [markByte_eq]
    rfl
  simp only [State.reportTracks, State.bytes38, next, inhibits, s.tracksIn_eq, s.valveByte_eq, bigEndian_four]
  rfl

/-! ## READ-PEERS (Table 10-9) -/

theorem Peer.report_eq (s : State) (id : Fin 24) : ((s.peers[id]).report (s.inHaltSet id.val)).flatten = s.peerBytes id := by
  have first : byteOf ((s.peers[id]).state.code + 4 * (s.peers[id]).about.isSome.toNat + 8 * (s.peers[id]).haltFlag.toNat
      + 16 * (s.inHaltSet id.val).toNat) = markByte ![decide ((s.peers[id]).state = .live), decide ((s.peers[id]).state = .lost),
        (s.peers[id]).about.isSome, (s.peers[id]).haltFlag, s.haltSet.getLsbD id.val, false, false, false] := by
    rw [markByte_eq]
    refine congrArg byteOf ?_
    cases (s.peers[id]).state <;> simp [marks, PeerState.code, State.inHaltSet] <;> omega
  simp only [Peer.report, State.peerBytes, first, bigEndian_two, bigEndian_four]
  cases (s.peers[id]).about <;> rfl

/-! ## Trace and copies (Tables 10-6, 10-7) -/

theorem TraceEntry.report_eq (x : TraceEntry) : x.report = x.bytes := by
  have ended : byteOf (x.outcome.code * 64 + x.cls.code * 8 + x.outcome.reasonCode) = BitVec.ofNat 8
      ((match x.outcome with | .fired => (0, 0) | .missed reason => (1, reason.code) | .passed => (2, 0) | .taken => (3, 0)).1 * 64
        + x.cls.code * 8
        + (match x.outcome with | .fired => (0, 0) | .missed reason => (1, reason.code) | .passed => (2, 0) | .taken => (3, 0)).2) := by
    cases x.outcome <;> rfl
  have opens : (x.tOpen.map BitVec.toNat).getD 0 = match x.tOpen with | none => 0 | some t => t.toNat := by
    cases x.tOpen <;> rfl
  simp only [TraceEntry.report, TraceEntry.bytes, ended, opens, bigEndian_three, bigEndian_four, markByte_eq]
  rfl

theorem CopyEntry.report_eq (c : CopyEntry) : c.report = c.bytes := by
  have payload : (c.payload ++ List.replicate 14 0).take 14 = (List.range 14).map fun k => c.payload.getD k 0 := by
    refine List.ext_getElem (by simp) fun k _ within => ?_
    simp only [List.length_map, List.length_range] at within
    simp only [List.getElem_take, List.getElem_map, List.getElem_range]
    by_cases inside : k < c.payload.length
    · simp [List.getElem_append_left inside, inside]
    · rw [List.getElem_append_right (Nat.le_of_not_lt inside), List.getElem_replicate]
      simp [inside]
  simp only [CopyEntry.report, CopyEntry.bytes, payload, bigEndian_three, bigEndian_four]
  rfl

/-! ## The flight list (R144) -/

/-- In order of the due times, read from the current timebase. -/
def State.inDueOrder (s : State) (es : List FlightEntry) : Prop :=
  es.Pairwise fun a b => distance s.belt.timebase a.due ≤ distance s.belt.timebase b.due

theorem State.placeFlight_inDueOrder {s : State} (e : FlightEntry) {es : List FlightEntry} (ordered : s.inDueOrder es) :
    s.inDueOrder (placeFlight s.belt.timebase e es) := by
  induction es with
  | nil => exact List.pairwise_singleton _ _
  | cons d rest ih =>
    obtain ⟨first, later⟩ := List.pairwise_cons.mp ordered
    unfold placeFlight
    split
    next before =>
      refine List.pairwise_cons.mpr ⟨fun x hx => ?_, ordered⟩
      rcases List.mem_cons.mp hx with rfl | hx
      · exact Int.le_of_lt before
      · exact Int.le_trans (Int.le_of_lt before) (first x hx)
    next after =>
      refine List.pairwise_cons.mpr ⟨fun x hx => ?_, ih later⟩
      rcases List.mem_cons.mp ((placeFlight_perm _ e rest).mem_iff.mp hx) with rfl | hx
      · exact Int.not_lt.mp after
      · exact first x hx

/-- The flight list with a track taken into account. -/
def State.placeDue (s : State) (es : List FlightEntry) (t : Track) : List FlightEntry :=
  match t.nextDue with
  | some due => placeFlight s.belt.timebase ⟨due, t.made⟩ es
  | none => es

theorem State.flightList_eq (s : State) : s.flightList = s.tracks.foldl s.placeDue [] := rfl

theorem State.placeDue_perm (s : State) (es : List FlightEntry) (t : Track) :
    (s.placeDue es t).Perm ((t.nextDue.map fun due => { due := due, track := t.made }).toList ++ es) := by
  unfold State.placeDue
  cases t.nextDue with
  | none => exact .refl es
  | some due => exact placeFlight_perm _ _ es

theorem State.flightList_inDueOrder (s : State) : s.inDueOrder s.flightList := by
  have placed : ∀ (ts : List Track) (es : List FlightEntry), s.inDueOrder es → s.inDueOrder (ts.foldl s.placeDue es) := by
    intro ts
    induction ts with
    | nil => exact fun _ ordered => ordered
    | cons t rest ih =>
      intro es ordered
      refine ih _ ?_
      unfold State.placeDue
      split
      · exact State.placeFlight_inDueOrder _ ordered
      · exact ordered
  exact placed _ [] .nil

theorem State.flightList_perm (s : State) :
    s.flightList.Perm (s.tracks.filterMap fun t => t.nextDue.map fun due => { due := due, track := t.made }) := by
  have placed : ∀ (ts : List Track) (es : List FlightEntry), (ts.foldl s.placeDue es).Perm
      ((ts.filterMap fun t => t.nextDue.map fun due => { due := due, track := t.made }) ++ es) := by
    intro ts
    induction ts with
    | nil => exact fun es => .refl es
    | cons t rest ih =>
      intro es
      refine ((ih _).trans (List.Perm.append_left _ (s.placeDue_perm es t))).trans ?_
      cases due : t.nextDue with
      | none => simp [due]
      | some d =>
        simp only [List.filterMap_cons, due, Option.map_some]
        exact List.perm_middle
  have whole := placed s.tracks []
  rwa [List.append_nil] at whole

end Sys2Proof.Machine

/-! PROOF. The port's reading and clearing commands (R103, R166 to R168, R171, R176 to R182): what they answer and change. -/

namespace Sys2Proof.Machine

/-! ## The moments of the values (R166) -/

theorem State.formNow_of_no_wait (s : State) (values : List PortValue) : ∀ waits : List Nat, (∀ w ∈ waits, w = 0) →
    s.formNow values waits = (values.flatMap s.valueBytes, none) := by
  induction values with
  | nil => exact fun _ _ => rfl
  | cons v rest ih =>
    intro waits zero
    match waits, zero with
    | [], zero => simp only [State.formNow, ih [] zero, List.flatMap_cons]
    | 0 :: waits, zero =>
      simp only [State.formNow, ih waits fun w hw => zero w (List.mem_cons_of_mem _ hw), List.flatMap_cons]
    | (w + 1) :: waits, zero => exact absurd (zero _ List.mem_cons_self) (Nat.succ_ne_zero w)

theorem State.formNow_of_wait (s : State) (values : List PortValue) (w : Nat) (waits : List Nat) : ∀ k, k < values.length →
    s.formNow values (List.replicate k 0 ++ (w + 1) :: waits) = ((values.take k).flatMap s.valueBytes,
      some { values := values.drop k, waits := waits, due := s.belt.timebase + BitVec.ofNat 32 (w + 1) }) := by
  induction values with
  | nil => exact fun k within => absurd within (Nat.not_lt_zero k)
  | cons v rest ih =>
    intro k within
    match k with
    | 0 => rfl
    | k + 1 =>
      rw [List.replicate_succ, List.cons_append]
      simp only [State.formNow, ih k (Nat.lt_of_succ_lt_succ within), List.take_succ_cons, List.flatMap_cons, List.drop_succ_cons]

theorem State.formValue_of_due {s : State} {o : Outgoing} (outgoing : s.outgoing = some o)
    (due : atOrBefore o.due s.belt.timebase = true) : s.formValue = s.goOn o.values (0 :: o.waits) := by
  simp only [State.formValue, outgoing]
  exact if_pos due

theorem State.answer_ok (s : State) (rest : List Byte) : s.answer .ok rest = s.answered (0 :: rest) := rfl

theorem State.stateValues_lengths (s : State) : (stateValues.map fun v => (s.valueBytes v).length) =
    [1, 3, 4, 1, 3, 1, 1, 1, 1] ++ [1, 1, 1, 1, 1, 1, 1, 1, 3, 4] ++ [3, 1, 1, 1, 1] ++ [1, 1, 1, 1, 1, 1, 1, 1, 4]
      ++ [1, 1, 1, 1, 1, 1, 1, 1, 1, 1, 1] := by
  rw [stateValues, List.map_map]
  exact map_places s.stateReport List.length

theorem Peer.report_lengths (p : Peer) (inSet : Bool) : (p.report inSet).map List.length = [1, 1, 1, 1, 2, 1, 1, 4] := by
  unfold Peer.report
  cases p.about <;> rfl

theorem State.peerValues_lengths (s : State) : (peerValues.map fun v => (s.valueBytes v).length)
    = (List.finRange 24).flatMap fun _ => [1, 1, 1, 1, 2, 1, 1, 4] := by
  rw [peerValues, List.map_flatMap]
  refine List.flatMap_congr fun id _ => ?_
  have places := map_places ((s.peers[id]).report (s.inHaltSet id.val)) List.length
  have eight : ((s.peers[id]).report (s.inHaltSet id.val)).length = 8 := by
    rw [← List.length_map List.length, Peer.report_lengths]
    rfl
  rw [eight, Peer.report_lengths] at places
  rw [List.map_map]
  exact places

/-- Settles O54: the answers of the reading commands, the bytes of the values by their tables, and the moments they are formed at. -/
theorem readsAnswerTheState : Obligations.ReadsAnswerTheState := by
  intro s
  refine ⟨fun out => ⟨?_, ?_, ?_, fun waits => ⟨?_, ?_, ?_, ?_⟩⟩, ?_, ?_, ?_, ?_, rfl, fun x => (bigEndian_four _).symm,
    (bigEndian_two _).symm, fun values waits zero => ?_, fun values k w rest within => ?_,
    fun o outgoing due => State.formValue_of_due outgoing due, s.flightList_perm, s.flightList_inDueOrder⟩
  · change execReadIdent s = _
    exact s.act_out _ out
  · change execReadConfig s = _
    exact s.act_out _ out
  · change execReadTrace s = _
    refine (s.act_out _ out).trans ?_
    rw [State.answer_ok, State.traceReport, show TraceEntry.report = TraceEntry.bytes from funext TraceEntry.report_eq]
    rfl
  · change execReadState s waits = _
    exact s.act_out _ out
  · change execReadPeers s waits = _
    exact s.act_out _ out
  · change execReadTallies s waits = _
    exact s.act_out _ out
  · change execReadFlags s waits = _
    exact s.act_out _ out
  · rw [s.stateValues_bytes, State.stateReport, List.flatten_append, List.flatten_append, List.flatten_append,
      s.reportBelt_reportLink, s.reportHalt_eq, s.reportTracks_eq]
  · exact s.stateValues_lengths
  · rw [s.peerValues_bytes]
    exact List.flatMap_congr fun id _ => Peer.report_eq s id
  · exact s.peerValues_lengths
  · simp only [State.goOn, s.formNow_of_no_wait values waits zero]
  · simp only [State.goOn, s.formNow_of_wait values w rest k within]

/-! ## The bytes of a transaction (Table 10-1) -/

theorem takenCommand_of_unknown {code : Byte} (unknown : code.toNat = 0 ∨ 17 < code.toNat) (args : List Byte) (waits : List Nat) :
    takenCommand code args waits = some (.unknownCommand code) := by
  unfold takenCommand
  split
  on_goal 18 => rfl
  all_goals omega

theorem takenWrite_of_short {args : List Byte} (short : args.length < 2) : takenWrite args = none := by
  match args, short with
  | [], _ => rfl
  | [_], _ => rfl
  | _ :: _ :: _, short => exact absurd short (by simp)

theorem takenMask_of_short {args : List Byte} (short : args.length < 2) : takenMask args = none := by
  match args, short with
  | [], _ => rfl
  | [_], _ => rfl
  | _ :: _ :: _, short => exact absurd short (by simp)

/-- WRITE-CONFIG is taken with its last data byte, and what is clocked in after that is ignored. -/
theorem takenWrite_of_all (offset count : Byte) {data : List Byte} (all : data.length = count.toNat) (more : List Byte) :
    takenWrite (offset :: count :: (data ++ more)) = some (.writeConfig offset count data) := by
  have enough : count.toNat ≤ (data ++ more).length := by
    rw [List.length_append, all]
    exact Nat.le_add_right _ _
  rw [takenWrite, if_pos enough, ← all, List.take_left]

theorem takenWrite_of_missing (offset : Byte) {count : Byte} {args : List Byte} (short : args.length < count.toNat) :
    takenWrite (offset :: count :: args) = none := if_neg (Nat.not_le.mpr short)

/-! ## Commands that clear or take -/

/-- The flags after CLEAR-FLAGS (R176). -/
theorem State.clearedFlags (s : State) (mask : BitVec 16) (f : Flag) :
    (s.flags &&& ~~~(mask.setWidth 14)).getLsbD f.bit.val = (s.flagSet f && !mask.getLsbD f.bit.val) := by
  have within := f.bit.isLt
  simp [State.flagSet, within]

theorem State.clearedTallies (s : State) (x : Tally) : State.tally { s with tallies := Vector.replicate 43 0 } x = 0 := by
  simp [State.tally]

theorem knownCommand_of_unknown {code : Byte} (unknown : code.toNat = 0 ∨ 17 < code.toNat) : knownCommand code = false := by
  rw [knownCommand_iff]
  simp
  omega

/-- Settles O55: Table 10-1 byte by byte, and the commands that clear or take. -/
theorem clearsAndTakesActAtOnce : Obligations.ClearsAndTakesActAtOnce := by
  refine ⟨fun more waits => ?_, fun s out => ⟨fun mask => ?_, ?_, fun none_ => ?_, fun l latest => ?_, fun empty => ?_,
    fun c rest copies => ?_, fun code unknown => ?_, ?_⟩⟩
  · intro bare
    refine ⟨?_, fun offset count data all => ?_, fun high low => rfl, fun id => rfl, fun code unknown => ?_, rfl, rfl,
      fun short => ⟨?_, ?_⟩, fun offset count short => ?_⟩
    · exact List.forall_iff_forall_mem.mp ⟨rfl, rfl, rfl, rfl, rfl, rfl, rfl, rfl, rfl, rfl, rfl, rfl, rfl, rfl⟩
    · exact congrArg (·.getD .transactionAbandon) (takenWrite_of_all offset count all more)
    · exact congrArg (·.getD .transactionAbandon) (takenCommand_of_unknown unknown more waits)
    · exact congrArg (·.getD .transactionAbandon) (takenWrite_of_short short)
    · exact congrArg (·.getD .transactionAbandon) (takenMask_of_short short)
    · exact congrArg (·.getD .transactionAbandon) (takenWrite_of_missing offset short)
  · refine ⟨State.answered { s with flags := s.flags &&& ~~~(mask.setWidth 14) } [0], ?_, rfl, rfl, ?_, s.clearedFlags mask⟩
    · change execClearFlags mask s = _
      exact s.act_out _ out
    · intro p apart
      cases p <;> first | rfl | simp at apart
  · refine ⟨State.answered { s with tallies := Vector.replicate 43 0 } [0], ?_, rfl, rfl, s.clearedTallies, ?_⟩
    · change execClearTallies s = _
      exact s.act_out _ out
    · intro p apart
      cases p <;> first | rfl | simp at apart
  · change execReadLatest s = _
    refine (s.act_out _ out).trans ?_
    have same : (s.latest.map fun l => { l with isNew := false }) = s.latest := by rw [none_, Option.map_none]
    have report : s.latestReport = 0 :: List.replicate 13 0 := by simp only [State.latestReport, none_]
    simp only [same, report]
    rfl
  · change execReadLatest s = _
    refine (s.act_out _ out).trans ?_
    have report : s.latestReport = (if l.isNew then 3 else 1) :: l.entry.bytes := by
      simp only [State.latestReport, latest, TraceEntry.report_eq]
      cases l.isNew <;> rfl
    simp only [report, latest]
    rfl
  · change execReadCopy s = _
    refine (s.act_out _ out).trans ?_
    simp only [empty]
    rfl
  · change execReadCopy s = _
    refine (s.act_out _ out).trans ?_
    simp only [copies, CopyEntry.report_eq]
    rfl
  · change execUnknownCommand code s = _
    refine (s.act_out _ out).trans ?_
    rw [knownCommand_of_unknown unknown]
    rfl
  · change execTransactionAbandon s = _
    exact s.act_out _ out

end Sys2Proof.Machine

/-! PROOF. Cold start, reset and warm restart (R174, R175): every block at its values, part by part. -/

namespace Sys2Proof.Machine

/-! ## The cold record (Table 10-3) -/

theorem Record.cold_bytes : Record.cold.bytes.toList =
    [0, 0, 32, 0, 0, 0, 15, 160, 3, 232, 0, 2, 64, 255, 255, 255, 255]
      ++ [0, 0, 255, 0, 0, 255, 0, 0, 255, 0, 0, 255, 1, 144, 4, 0, 1, 44]
      ++ (List.replicate 14 0 ++ List.replicate 20 8)
      ++ [3, 232, 0, 200, 1, 44, 10, 4, 176, 10, 10, 0, 7, 208, 156, 64, 11, 184, 12, 4, 0, 10]
      ++ (List.replicate 10 0 ++ List.replicate 14 4 ++ [4, 0]) := by decide

theorem Record.cold_sensing :
    Record.cold.role = .sense ∧ Record.cold.laneBase = 0 ∧ Record.cold.laneCount = 32 ∧ Record.cold.kind = .inductiveBar
      ∧ Record.cold.sensorLine = 0 ∧ Record.cold.beltHead = 4000 ∧ Record.cold.pitch = 1000 ∧ Record.cold.countedEdge = .rising
      ∧ Record.cold.scanPitch = 2 ∧ Record.cold.presenceThreshold = 64 ∧ Record.cold.laneMask = 4294967295
      ∧ Record.cold.bands = List.replicate 4 { enabled := false, cls := .unknown, lo := 0, hi := 255 } := by decide

theorem Record.cold_pieces : (Record.cold.maxSightingLength = 400 ∧ Record.cold.minArea = 4 ∧ Record.cold.curtain = 0
    ∧ Record.cold.flightDistance = 300) ∧ Record.cold.threshold = 1000 ∧ Record.cold.margin = 200
    ∧ Record.cold.verdictDistance = 300 ∧ Record.cold.tolerance = 10 ∧ Record.cold.maxEjectLength = 1200 := by decide

theorem Record.cold_ejecting : Record.cold.leadMargin = 10 ∧ Record.cold.trailMargin = 10 ∧ Record.cold.spread = 0
    ∧ Record.cold.minPulse = 2000 ∧ Record.cold.maxOpen = 40000 ∧ Record.cold.recovery = 3000 ∧ Record.cold.budget = 12
    ∧ Record.cold.budgetLow = 4 ∧ Record.cold.sweep = false ∧ Record.cold.beaconInterval = 100000 := by decide

theorem Record.cold_classes :
    (∀ c, Record.cold.drift c = 0 ∧ Record.cold.isTarget c = false ∧ Record.cold.isRescue c = false ∧ Record.cold.classRank c = 0)
      ∧ ∀ k c, c ≠ .unknown → Record.cold.weight k c = 8 :=
  ⟨fun c => by cases c <;> decide, fun k c named => by
    cases k <;> cases c <;> first | exact absurd rfl named | decide⟩

theorem Record.cold_inputs : (∀ i, i < 8 → Record.cold.activeLow i = false ∧ Record.cold.inputFunction i = .none)
    ∧ Record.cold.watchMask = 0 ∧ Record.cold.watchPattern = 0 ∧ (∀ f, Record.cold.alertLevel f = 4)
    ∧ Record.cold.alertThreshold = 4 ∧ ∀ k, Record.cold.copies k = false :=
  ⟨by decide, by decide, by decide, by decide, by decide, fun k => by cases k <;> decide⟩

theorem State.alertLow_of_no_flag {s : State} (none_ : s.flags = 0) : s.alertLow = false := by
  simp [State.alertLow, none_]

theorem State.cold_openCount (straps : BitVec 5) (n : Nat) (queue : List Instr) : (State.cold straps n queue).openCount = 0 := by
  rw [State.openCount_eq_zero_iff]
  intro i
  simp [State.cold, Valve.isOpen]

/-- In reset no command but the two of a cold start does anything (R175). -/
theorem exec_of_reset {s : State} (held : s.inReset = true) {c : Instr} (other : isReset c = false) : exec c s = .next s := by
  cases c with
  | resetAssert => cases other
  | coldStart => cases other
  | _ =>
    dsimp only [exec]
    exact s.act_in _ held

/-- Settles O59: the cold values, the driven outputs in reset, and the commands reset ignores. -/
theorem coldStartAndResetHoldColdValues : Obligations.ColdStartAndResetHoldColdValues := by
  intro s
  refine ⟨fun straps => ⟨State.cold straps s.freeCount s.pending, rfl, rfl, rfl, rfl, rfl, rfl, rfl, rfl, rfl, fun i => ?_, rfl,
    fun x => ?_, rfl, rfl, rfl, rfl, rfl, rfl, rfl, rfl, fun i => ?_, State.cold_openCount _ _ _, ?_, rfl,
    State.alertLow_of_no_flag rfl, rfl, ⟨Record.cold_sensing, ?_, Record.cold_ejecting, Record.cold_inputs⟩, Record.cold_bytes⟩,
    ⟨{ State.cold s.strapId s.freeCount s.pending with inReset := true }, rfl, rfl, fun i => ?_, State.alertLow_of_no_flag rfl, rfl⟩,
    fun held c other => exec_of_reset held other⟩
  · exact Vector.getElem_replicate i.isLt
  · exact Vector.getElem_replicate (Tally.index x).isLt
  · exact Vector.getElem_replicate i.isLt
  · obtain ⟨-, -, -, -, -, -, budget, -⟩ := Record.cold_ejecting
    exact budget
  · obtain ⟨⟨sighting, area, curtain, flight⟩, verdicts⟩ := Record.cold_pieces
    exact ⟨sighting, area, curtain, flight, Record.cold_classes.1, Record.cold_classes.2, verdicts⟩
  · have closed : (Vector.replicate 32 Valve.closed)[i] = .closed := Vector.getElem_replicate i.isLt
    exact congrArg Valve.isOpen closed

/-! ## Warm restart (R174) -/

theorem closeValve_of_open {v : Valve} (isOpen : v.isOpen = true) (now : Time) (recovery : Nat) :
    closeValve now recovery v = .resting (now + BitVec.ofNat 32 recovery) := by
  cases v with
  | opened => rfl
  | closed => cases isOpen
  | resting => cases isOpen

theorem closeValve_of_rest {v : Valve} (rests : v.isOpen = false) (now : Time) (recovery : Nat) :
    closeValve now recovery v = v := by
  cases v with
  | opened => cases rests
  | closed => rfl
  | resting => rfl

/-- The restarted part, each part of it once. -/
theorem State.warmRestart_eq (s : State) : s.warmRestart = { s with
    mode := .setup
    scan := { s.scan.cleared with link := s.scan.link.voided }
    localSightings := []
    tx := s.tx.restarted
    inbox := []
    copies := []
    peers := Vector.replicate 24 Peer.cold
    haltSet := if s.ownHalt then BitVec.twoPow 24 s.strapId.toNat else 0
    monitor := { s.monitor with watch := .waiting }
    tracks := []
    valves := s.closeAllValves.valves
    tallies := (s.bumpBy .discarded s.tracks.length).tallies } := by
  simp only [State.warmRestart, State.bumpBy, State.closeAllValves]

theorem State.warmRestart_inHaltSet (s : State) {k : Nat} (station : k < 24) :
    s.warmRestart.inHaltSet k = (s.ownHalt && decide (k = s.strapId.toNat)) := by
  have set : s.warmRestart.haltSet = if s.ownHalt then BitVec.twoPow 24 s.strapId.toNat else 0 := by rw [s.warmRestart_eq]
  rw [State.inHaltSet, set]
  cases s.ownHalt
  · simp
  · simp [station]

theorem State.warmRestart_openCount (s : State) : s.warmRestart.openCount = 0 := by
  rw [State.openCount_eq_zero_iff]
  intro i
  have valves : s.warmRestart.valves = s.closeAllValves.valves := by rw [s.warmRestart_eq]
  rw [valves, s.closeAllValves_valves]
  exact closeValve_isOpen _ _ _

theorem State.warmRestart_tally (s : State) (x : Tally) :
    s.warmRestart.tally x = (s.bumpBy .discarded s.tracks.length).tally x := by
  rw [s.warmRestart_eq]
  rfl

theorem State.answered_only (s : State) (bytes : List Byte) : s.changesOnly (s.answered bytes) [.response, .outgoing] := by
  intro p apart
  cases p <;> first | rfl | simp at apart

/-- Settles O58: in SETUP the response alone; in operation the warm restart, part by part. -/
theorem restartReturnsToSetup : Obligations.RestartReturnsToSetup := by
  intro s out
  have works : exec .restart s = .next ((if s.operating then s.warmRestart else s).answered [0]) := by
    change execRestart s = _
    exact s.act_out _ out
  refine ⟨fun setup => ?_, fun operating => ?_⟩
  · rw [works, if_neg (by simp [State.operating, setup])]
  · rw [works, if_pos (State.operating_of operating)]
    have tally := s.warmRestart_tally
    have halts := fun k => s.warmRestart_inHaltSet (k := k)
    have rests := s.warmRestart_openCount
    have valves : ∀ i : Fin 32, (s.warmRestart.valves)[i] = closeValve s.belt.timebase s.record.recovery s.valves[i] := fun i => by
      rw [s.warmRestart_eq]
      exact s.closeAllValves_valves i
    have is := s.warmRestart_eq
    have only := s.warmRestart_only
    generalize s.warmRestart = w at *
    subst is
    refine ⟨_, rfl, rfl, rfl, rfl, rfl, rfl, ?_, fun x other => (tally x).trans ?_, rfl, rfl, rfl, fun i => ?_, fun k station => halts k station,
      rfl, rfl, rfl, rfl, rfl, rfl, rfl, rfl, rfl, fun idle => ?_, fun stamp ends void exchange => ?_, rfl, rfl, rfl, rfl, rfl, rfl, rfl,
      rfl, fun i => ?_, rests, only.then (State.answered_only _ _) (by simp) (by simp)⟩
    · have counted := s.bumpBy_counts .discarded s.tracks.length
      rw [State.counts, ← tally] at counted
      exact counted
    · exact s.bumpBy_counts_other .discarded x _ other
    · exact Vector.getElem_replicate i.isLt
    · exact congrArg SampleLink.voided idle
    · exact congrArg SampleLink.voided exchange
    · have valve := valves i
      exact ⟨fun isOpen => valve.trans (closeValve_of_open isOpen _ _), fun rests => valve.trans (closeValve_of_rest rests _ _)⟩

end Sys2Proof.Machine

/-! PROOF. WRITE-CONFIG (R5, R81, R166, R169 to R171): what the record holds after a write, and what the conditions make of it. -/

namespace Sys2Proof.Machine

/-! ## The record written (R169, R170) -/

section
variable {r : Record} {offset : Nat} {data : List Byte} {f : Field}

theorem Record.byte_eq (r : Record) (j : Fin 117) : r.byte j.val = r.bytes[j] := by simp [Record.byte]

/-- The two fields of the agreements. -/
abbrev minPulseField : Field := ⟨81, 2, .unsigned 500 20000⟩
abbrev budgetLowField : Field := ⟨88, 1, .unsigned 0 32⟩

theorem minPulseField_mem : minPulseField ∈ recordFields := by decide
theorem budgetLowField_mem : budgetLowField ∈ recordFields := by decide

/-- The agreements touch no byte of another field than theirs. -/
theorem Record.byte_write_other (listed : f ∈ recordFields) (notPulse : f.offset ≠ 81) (notLow : f.offset ≠ 88) {j : Nat}
    (covered : f.covers j) : (r.write offset data).byte j = (r.clamped offset data).byte j := by
  obtain ⟨-, -, others⟩ := (r.clamped offset data).agree_spec
  have pulse : ¬ minPulseField.covers j := fun both =>
    notPulse (congrArg Field.offset (recordFields_eq_of_covers listed minPulseField_mem covered both))
  have low : ¬ budgetLowField.covers j := fun both =>
    notLow (congrArg Field.offset (recordFields_eq_of_covers listed budgetLowField_mem covered both))
  simp only [Field.covers] at pulse low
  rw [r.write_eq]
  exact others j (by omega) (by omega) (by omega)

/-- A byte of no field of a range is what the data make it. -/
theorem Record.byte_write_unrestricted {j : Nat} (outside : ∀ f ∈ recordFields, ¬ f.covers j) :
    (r.write offset data).byte j = (r.put offset data).byte j := by
  obtain ⟨-, -, others⟩ := (r.clamped offset data).agree_spec
  have pulse := outside _ minPulseField_mem
  have low := outside _ budgetLowField_mem
  simp only [Field.covers] at pulse low
  rw [r.write_eq, others j (by omega) (by omega) (by omega)]
  exact r.byte_clamped_outside offset data fun f listed _ => outside f listed

theorem Record.write_brought (listed : f ∈ recordFields) (notPulse : f.offset ≠ 81) (notLow : f.offset ≠ 88)
    (touched : f.touchedBy offset data.length) : (r.write offset data).brought f (r.put offset data).byte :=
  Record.brought_congr (recordFields_wellFormed f listed) (fun _ covered => Record.byte_write_other listed notPulse notLow covered)
    (fun _ _ => rfl) (r.clamped_brought offset data listed touched)

theorem Record.byte_write_untouched (listed : f ∈ recordFields) (notPulse : f.offset ≠ 81) (notLow : f.offset ≠ 88)
    (untouched : ¬ f.touchedBy offset data.length) {j : Nat} (covered : f.covers j) :
    (r.write offset data).byte j = r.byte j :=
  (Record.byte_write_other listed notPulse notLow covered).trans (r.byte_clamped_untouched offset data listed untouched covered)

theorem Record.wordAt_of_brought {raw : Record} {at_ lo hi : Nat} (brought : r.brought ⟨at_, 2, .unsigned lo hi⟩ raw.byte) :
    r.wordAt at_ = max lo (min hi (raw.wordAt at_)) := brought.2 rfl

theorem Record.byteAt_of_brought {raw : Record} {at_ lo hi : Nat} (brought : r.brought ⟨at_, 1, .unsigned lo hi⟩ raw.byte) :
    r.byteAt at_ = max lo (min hi (raw.byteAt at_)) := brought.1 rfl

theorem Record.byteAt_congr {r r' : Record} {i : Nat} (same : r'.byte i = r.byte i) : r'.byteAt i = r.byteAt i := by
  rw [Record.byteAt, Record.byteAt, same]

theorem Record.wordAt_congr {r r' : Record} {i : Nat} (first : r'.byte i = r.byte i) (second : r'.byte (i + 1) = r.byte (i + 1)) :
    r'.wordAt i = r.wordAt i := by
  rw [Record.wordAt, Record.wordAt, Record.byteAt_congr first, Record.byteAt_congr second]

/-- The minimum pulse: its own value, touched or not, brought down to the maximum open time. -/
theorem Record.write_minPulse (touches : Prop) [Decidable touches]
    (which : minPulseField.touchedBy offset data.length = true ↔ touches) :
    (r.write offset data).minPulse = min (r.write offset data).maxOpen
      (if touches then max 500 (min 20000 ((r.put offset data).wordAt 81)) else r.minPulse) := by
  have agrees := (r.clamped offset data).agree_spec
  rw [← r.write_eq] at agrees
  obtain ⟨pulse, -, others⟩ := agrees
  have maxOpen : (r.write offset data).maxOpen = (r.clamped offset data).maxOpen :=
    Record.wordAt_congr (others 83 (by decide) (by decide) (by decide)) (others 84 (by decide) (by decide) (by decide))
  rw [maxOpen, pulse]
  refine congrArg (min _) ?_
  split
  next touched => exact Record.wordAt_of_brought (r.clamped_brought offset data minPulseField_mem (which.mpr touched))
  next untouched =>
    have kept := fun j => r.byte_clamped_untouched offset data minPulseField_mem (mt which.mp untouched) (j := j)
    exact Record.wordAt_congr (kept 81 (by decide)) (kept 82 (by decide))

/-- B_low: its own value, touched or not, brought down to B. -/
theorem Record.write_budgetLow_eq (touches : Prop) [Decidable touches]
    (which : budgetLowField.touchedBy offset data.length = true ↔ touches) :
    (r.write offset data).budgetLow = min (r.write offset data).budget
      (if touches then min 32 ((r.put offset data).byteAt 88) else r.budgetLow) := by
  have agrees := (r.clamped offset data).agree_spec
  rw [← r.write_eq] at agrees
  obtain ⟨-, low, others⟩ := agrees
  have budget : (r.write offset data).budget = (r.clamped offset data).budget :=
    Record.byteAt_congr (others 87 (by decide) (by decide) (by decide))
  rw [budget, low]
  refine congrArg (min _) ?_
  split
  next touched =>
    have brought := Record.byteAt_of_brought (r.clamped_brought offset data budgetLowField_mem (which.mpr touched))
    exact brought.trans (Nat.zero_max _)
  next untouched =>
    exact Record.byteAt_congr (r.byte_clamped_untouched offset data budgetLowField_mem (mt which.mp untouched) (by decide))

/-- A field is touched by a write that takes in one of its bytes. -/
theorem Field.touchedBy_iff_inside (wf : f.wellFormed) (n : Nat) :
    f.touchedBy offset n ↔ ∃ k, k < f.size ∧ offset ≤ f.offset + k ∧ f.offset + k < offset + n := by
  have positive := f.size_pos wf
  rw [Field.touchedBy_iff]
  constructor
  · rintro ⟨some_, first, last⟩
    exact ⟨max offset f.offset - f.offset, by omega, by omega, by omega⟩
  · rintro ⟨k, within, first, last⟩
    omega

theorem inputsChanged_iff {old new : Record} :
    inputsChanged old new = false ↔ ∀ i, i < 8 → new.byte (91 + i) = old.byte (91 + i) := by
  rw [inputsChanged, List.any_eq_false]
  simp only [List.mem_range, bne_iff_ne, ne_eq, Decidable.not_not]
  exact forall_congr' fun i => imp_congr_right fun _ => eq_comm

end

/-! ## Door and stop passed on in SETUP (R74, R75) -/

/-- What holds through a change of door and of stop holds through both, in either order. -/
theorem State.setDoorStop_induction {P : State → Prop} {x : State} (isOpen requested : Bool) (start : P x)
    (free : ∀ n, P { x with freeCount := n }) (door : ∀ y v, P y → P (y.setDoor v)) (stop : ∀ y v, P y → P (y.setStop v)) :
    P (x.setDoorStop isOpen requested) := by
  unfold State.setDoorStop
  dsimp only
  split
  · split
    · exact stop _ _ (door _ _ (free _))
    · exact door _ _ (stop _ _ (free _))
  · exact stop _ _ (door _ _ start)

/-- The own id stands in the halt set as the own halt says (R77). -/
def State.ownIn (s : State) : Prop := s.strapId.toNat < 24 → s.inHaltSet s.strapId.toNat = s.ownHalt

section
variable {x z : State} {cause : HaltCause}

theorem State.HaltEffect.ownIn (effect : x.HaltEffect z cause) (own : x.ownIn) : z.ownIn := by
  intro station
  have strap : z.strapId = x.strapId := effect.only .strapId (by simp)
  rw [strap] at station ⊢
  by_cases same : z.ownHalt = x.ownHalt
  · rw [State.inHaltSet, effect.kept same .haltSet (by simp), same]
    exact own station
  · rw [effect.inSet same _ station, if_pos rfl]

theorem State.HaltEffect.others (effect : x.HaltEffect z cause) {k : Nat} (station : k < 24) (other : k ≠ x.strapId.toNat) :
    z.inHaltSet k = x.inHaltSet k := by
  by_cases same : z.ownHalt = x.ownHalt
  · rw [State.inHaltSet, effect.kept same .haltSet (by simp)]
    rfl
  · rw [effect.inSet same k station, if_neg other]

end

theorem State.setDoorStop_ownIn {x : State} (isOpen requested : Bool) (own : x.ownIn) : (x.setDoorStop isOpen requested).ownIn :=
  State.setDoorStop_induction (P := State.ownIn) isOpen requested own (fun _ => own) (fun y v => (y.setDoor_effect v).ownIn)
    fun y v => (y.setStop_effect v).ownIn

theorem State.setDoorStop_others {x : State} (isOpen requested : Bool) {k : Nat} (station : k < 24) (other : k ≠ x.strapId.toNat) :
    (x.setDoorStop isOpen requested).inHaltSet k = x.inHaltSet k := by
  have kept (y z : State) (cause : HaltCause) (effect : y.HaltEffect z cause)
      (held : y.strapId = x.strapId ∧ y.inHaltSet k = x.inHaltSet k) : z.strapId = x.strapId ∧ z.inHaltSet k = x.inHaltSet k := by
    obtain ⟨strap, same⟩ := held
    exact ⟨(effect.only .strapId (by simp)).trans strap, (effect.others station (strap ▸ other)).trans same⟩
  exact (State.setDoorStop_induction (P := fun y => y.strapId = x.strapId ∧ y.inHaltSet k = x.inHaltSet k) isOpen requested ⟨rfl, rfl⟩
    (fun _ => ⟨rfl, rfl⟩) (fun y v => kept y _ _ (y.setDoor_effect v)) fun y v => kept y _ _ (y.setStop_effect v)).2

/-- With one of the two alone there is no order to pick. -/
theorem State.setDoorStop_freeCount {x : State} {isOpen requested : Bool} (setup : x.mode = .setup)
    (single : isOpen = x.monitor.doorOpen ∨ requested = x.monitor.stopRequested) :
    (x.setDoorStop isOpen requested).freeCount = x.freeCount := by
  have together : ¬ (isOpen != x.monitor.doorOpen && requested != x.monitor.stopRequested) = true := by
    rcases single with same | same <;> simp [same]
  unfold State.setDoorStop
  dsimp only
  rw [if_neg together]
  have first := (x.setDoor_effect isOpen).inSetup setup
  have second := ((x.setDoor isOpen).setStop_effect requested).inSetup ((first .mode (by simp)).trans setup)
  exact (second .freeCount (by simp)).trans (first .freeCount (by simp))

/-! ## The conditions in SETUP (R81 to R83) -/

/-- What an evaluation in SETUP comes to: conditions, the two flags, the own id's place in the halt set. -/
structure State.SetupEffect (a e : State) : Prop where
  only : a.changesOnly e [.record, .belt, .monitor, .haltSet, .freeCount, .flags]
  monitor : e.monitor = { a.monitor with
    airLow := e.monitor.airLow, doorOpen := e.monitor.doorOpen
    chuteNotReady := e.monitor.chuteNotReady, stopRequested := e.monitor.stopRequested }
  air : e.flagSet .airLow = (a.flagSet .airLow || (!a.monitor.airLow && e.monitor.airLow))
  chute : e.flagSet .chute = (a.flagSet .chute || (!a.monitor.chuteNotReady && e.monitor.chuteNotReady))
  flags : a.flagsOnly e [.airLow, .chute]
  others : ∀ k : Nat, k < 24 → k ≠ a.strapId.toNat → e.inHaltSet k = a.inHaltSet k
  moves : e.ownHalt ≠ a.ownHalt → a.strapId.toNat < 24 → e.inHaltSet a.strapId.toNat = e.ownHalt
  single : e.monitor.doorOpen = a.monitor.doorOpen ∨ e.monitor.stopRequested = a.monitor.stopRequested →
    e.freeCount = a.freeCount ∧ (e.ownHalt = a.ownHalt → e.haltSet = a.haltSet)
  own : a.ownIn → e.ownIn

theorem State.SetupEffect.refl (a : State) : a.SetupEffect a where
  only := .refl _ _
  monitor := rfl
  air := by cases a.monitor.airLow <;> simp
  chute := by cases a.monitor.chuteNotReady <;> simp
  flags _ _ := rfl
  others _ _ _ := rfl
  moves change := absurd rfl change
  single _ := ⟨rfl, fun _ => rfl⟩
  own held := held

/-- Record and belt counter written before it are no part of it. -/
theorem State.SetupEffect.after {s a e : State} (written : s.changesOnly a [.record, .belt]) (effect : a.SetupEffect e) :
    s.SetupEffect e := by
  have monitor : a.monitor = s.monitor := written .monitor (by simp)
  have strap : a.strapId = s.strapId := written .strapId (by simp)
  have set : a.haltSet = s.haltSet := written .haltSet (by simp)
  have flag := written.flagsOnly (by simp) []
  have own : a.ownHalt = s.ownHalt := State.ownHalt_of_same written (by simp)
  have inSet : ∀ k, a.inHaltSet k = s.inHaltSet k := fun k => by rw [State.inHaltSet, set, State.inHaltSet]
  obtain ⟨only, isMonitor, air, chute, flags, others, moves, single, ownIn⟩ := effect
  rw [monitor] at isMonitor air chute single
  rw [flag _ (by simp)] at air chute
  rw [strap] at others moves
  rw [own] at moves single
  rw [set, written .freeCount (by simp)] at single
  refine ⟨written.then only (by simp) (fun _ h => h), isMonitor, air, chute, fun f apart => (flags f apart).trans (flag f (by simp)),
    fun k station other => (others k station other).trans (inSet k), moves, single, fun held => ownIn ?_⟩
  unfold State.ownIn at held ⊢
  rw [strap, own, inSet]
  exact held

theorem State.evaluateConditions_setupEffect {a : State} (setup : a.mode = .setup) : a.SetupEffect a.evaluateConditions := by
  obtain ⟨cOnly, cRecords⟩ := a.airChute_notes
  obtain ⟨cAir, cChute⟩ := a.airChute_flags
  have cMonitor := a.airChute_monitor
  rw [a.evaluateConditions_eq]
  generalize a.airChute = c at *
  generalize a.record.anyInput a.monitor.accepted .doorClosed false = isOpen
  generalize a.record.anyInput a.monitor.accepted .stopRequest true = requested
  have cDoor : c.monitor.doorOpen = a.monitor.doorOpen := by rw [cMonitor]
  have cStop : c.monitor.stopRequested = a.monitor.stopRequested := by rw [cMonitor]
  have cOwn : c.ownHalt = a.ownHalt := State.ownHalt_congr cDoor cStop (cOnly .operatorHalt (by simp))
  have cSetup : c.mode = .setup := (cOnly .mode (by simp)).trans setup
  have cStrap : c.strapId = a.strapId := cOnly .strapId (by simp)
  have cSet : c.haltSet = a.haltSet := cOnly .haltSet (by simp)
  have effect := c.setDoorStop_effect isOpen requested
  have others := fun k station other => State.setDoorStop_others (x := c) isOpen requested (k := k) station other
  have picks := State.setDoorStop_freeCount (x := c) (isOpen := isOpen) (requested := requested) cSetup
  have own := State.setDoorStop_ownIn (x := c) isOpen requested
  generalize c.setDoorStop isOpen requested = e at *
  have quiet := (effect.inSetup cSetup).flagsOnly (by simp) []
  have air : e.monitor.airLow = c.monitor.airLow := by rw [effect.monitor]
  have chute : e.monitor.chuteNotReady = c.monitor.chuteNotReady := by rw [effect.monitor]
  have door : e.monitor.doorOpen = isOpen := by rw [effect.monitor]
  have stop : e.monitor.stopRequested = requested := by rw [effect.monitor]
  refine ⟨cOnly.then (effect.inSetup cSetup) (by simp) (by simp), ?_, ?_, ?_, fun f apart => ?_, fun k station other => ?_,
    fun change station => ?_, fun single => ⟨?_, fun same => ?_⟩, fun held => own ?_⟩
  · rw [effect.monitor, cMonitor]
  · rw [quiet .airLow (by simp), cAir, air]
  · rw [quiet .chute (by simp), cChute, chute]
  · exact (quiet f (by simp)).trans (cRecords.2 f apart)
  · rw [others k station (cStrap ▸ other), State.inHaltSet, cSet]
    rfl
  · rw [← cStrap] at station ⊢
    rw [effect.inSet (cOwn ▸ change) _ station, if_pos rfl]
  · rw [door, stop, ← cDoor, ← cStop] at single
    exact (picks single).trans (cOnly .freeCount (by simp))
  · rw [door, stop, ← cDoor, ← cStop] at single
    exact (effect.kept (same.trans cOwn.symm) (by tauto) .haltSet (by simp)).trans cSet
  · unfold State.ownIn State.inHaltSet at held ⊢
    rw [cStrap, cSet, cOwn]
    exact held

/-! ## The command -/

/-- The record and the belt counter written, before the conditions are looked at. -/
def State.rewritten (s : State) (offset : Nat) (data : List Byte) : State :=
  { s with record := s.record.write offset data, belt := s.belt.repitch s.record (s.record.write offset data) }

theorem State.rewritten_only (s : State) (offset : Nat) (data : List Byte) : s.changesOnly (s.rewritten offset data) [.record, .belt] :=
  s.setRecordBelt_only _ _

theorem State.writeRecord_setupEffect {s : State} (setup : s.mode = .setup) (offset : Nat) (data : List Byte) :
    s.SetupEffect (s.writeRecord offset data) := by
  refine State.SetupEffect.after (s.rewritten_only offset data) ?_
  unfold State.writeRecord
  dsimp only
  split
  · exact State.evaluateConditions_setupEffect (a := s.rewritten offset data) setup
  · exact .refl _

theorem State.writeRecord_belt (s : State) (offset : Nat) (data : List Byte) :
    (s.writeRecord offset data).belt = s.belt.repitch s.record (s.record.write offset data) := by
  unfold State.writeRecord
  dsimp only
  split
  · exact State.evaluateConditions_only _ .belt (by simp)
  · rfl

theorem State.writeRecord_of_same {s : State} {offset : Nat} {data : List Byte}
    (same : inputsChanged s.record (s.record.write offset data) = false) : s.writeRecord offset data = s.rewritten offset data :=
  if_neg (by simp [same])

theorem State.writeRecord_of_changed {s : State} {offset : Nat} {data : List Byte}
    (changed : inputsChanged s.record (s.record.write offset data) = true) :
    s.writeRecord offset data = (s.rewritten offset data).evaluateConditions := if_pos changed

/-- With its data whole, WRITE-CONFIG is taken in SETUP (R169). -/
theorem writeConfig_writes {s : State} {offset count : Byte} {data : List Byte} (out : s.inReset = false) (setup : s.mode = .setup)
    (all : data.length = count.toNat) : exec (.writeConfig offset count data) s
      = .next ((s.writeRecord offset.toNat data).answered [0, BitVec.ofNat 8 (min count.toNat (117 - offset.toNat))]) := by
  have rests : s.operating = false := by simp [State.operating, setup]
  change execWriteConfig offset count data s = _
  refine (s.act_out _ out).trans ?_
  simp only [rests, ← all, Nat.lt_irrefl, if_false, Bool.false_eq_true, List.take_length]
  generalize s.writeRecord offset.toNat data = w
  rfl

/-- Settles O56: the record by its bytes and fields, and the conditions by their evaluation in SETUP. -/
theorem writeConfigWritesAndClamps : Obligations.WriteConfigWritesAndClamps := by
  intro offset count data s out
  refine ⟨fun short => ?_, fun all => ⟨fun operating => ?_, ?_⟩⟩
  · change execWriteConfig offset count data s = _
    exact (s.act_out _ out).trans (congrArg _ (if_pos short))
  · change execWriteConfig offset count data s = _
    refine (s.act_out _ out).trans (congrArg _ ((if_neg (by omega)).trans ?_))
    exact if_pos (State.operating_of operating)
  · intro setup inside raw touched raw16
    have works := writeConfig_writes (offset := offset) out setup all
    have effect := s.writeRecord_setupEffect setup offset.toNat data
    have record := s.writeRecord_record offset.toNat data
    have sound := State.writeRecord_conditionsSound (s := s) offset.toNat data
    have calm := fun same => (State.writeRecord_of_same (s := s) (offset := offset.toNat) (data := data) same)
    have written := s.rewritten_only offset.toNat data
    have evaluated : inputsChanged s.record (s.record.write offset.toNat data) = true →
        (s.writeRecord offset.toNat data).conditionsSound := fun changed => by
      rw [State.writeRecord_of_changed changed]
      exact State.evaluateConditions_conditionsSound _
    have bytes : ∀ j, j < 117 → (s.record.put offset.toNat data).byte j = raw j := fun j within => by
      rw [Record.byte_put _ _ _ _ within, all]
    have touches : ∀ f ∈ recordFields, f.touchedBy offset.toNat data.length = true ↔ touched f := fun f listed =>
      all ▸ Field.touchedBy_iff_inside (recordFields_wellFormed f listed) count.toNat
    have belt := s.writeRecord_belt offset.toNat data
    generalize s.writeRecord offset.toNat data = w at *
    have mode : w.mode = .setup := (effect.only .mode (by simp)).trans setup
    refine ⟨w.answered _, works, rfl, rfl, fun range => ?_, fun j outside => ?_, fun f listed notPulse notLow => ⟨fun hit => ?_,
      fun missed k within => ?_⟩, ?_, ?_, ?_, ?_, mode, fun same => ?_, fun differ => ?_, ?_, ?_, ?_,
      ?_, ?_, ?_, ?_, fun halts => ?_, ?_⟩
    · exact record ▸ s.record.write_inRange _ _ range
    · refine (Record.byte_eq _ j).symm.trans ?_
      rw [show (w.answered _).record = _ from record, Record.byte_write_unrestricted fun f listed => ?_]
      · exact bytes j j.isLt
      · have := outside f listed
        omega
    · have whole := recordFields_wellFormed f listed
      have brought := Record.write_brought (r := s.record) listed notPulse notLow ((touches f listed).mpr hit)
      rw [← record] at brought
      refine Record.brought_congr whole (fun _ _ => rfl) (fun j covered => (bytes j ?_).symm) brought
      have := f.inside whole
      omega
    · rw [show (w.answered _).record = _ from record]
      exact Record.byte_write_untouched listed notPulse notLow (mt (touches f listed).mp missed) ⟨by omega, by omega⟩
    · have pulse := Record.write_minPulse (r := s.record) (offset := offset.toNat) (data := data) (inside 81 ∨ inside 82) (by
        rw [Field.touchedBy_iff, all]
        simp only [inside]
        omega)
      rw [← record, Record.wordAt, Record.byteAt, Record.byteAt, bytes 81 (by decide), bytes 82 (by decide)] at pulse
      exact pulse
    · have low := Record.write_budgetLow_eq (r := s.record) (offset := offset.toNat) (data := data) (inside 88) (by
        rw [Field.touchedBy_iff, all]
        simp only [inside]
        omega)
      rw [← record, Record.byteAt, bytes 88 (by decide)] at low
      exact low
    · rw [← record] at belt
      exact belt
    · exact sound
    · have unchanged := calm (inputsChanged_iff.mpr fun i within => (congrArg (Record.byte · _) record).symm.trans (same i within))
      rw [← unchanged] at written
      exact written.then (w.answered_only _) (by simp) (by simp)
    · refine evaluated (Bool.not_eq_false _ ▸ fun none_ => differ fun i within => ?_)
      exact (congrArg (Record.byte · _) record).trans (inputsChanged_iff.mp none_ i within)
    · exact effect.monitor
    · exact effect.air
    · exact effect.chute
    · exact effect.flags
    · exact effect.others
    · exact effect.moves
    · exact effect.single
    · obtain ⟨-, -, own, -⟩ := halts
      have inSetup : (w.answered [0, BitVec.ofNat 8 (min count.toNat (117 - offset.toNat))]).mode = .setup := mode
      refine ⟨fun run => absurd (inSetup.symm.trans run) (by simp), fun held => absurd (inSetup.symm.trans held) (by simp),
        effect.own own, fun operating => ?_⟩
      exact absurd inSetup (by simpa [State.operating] using operating)
    · exact effect.only.then (w.answered_only _) (by simp) (by simp)

end Sys2Proof.Machine

/-! PROOF. START (R172, R173): the checks in their order, what an accepted START queues, settles and begins. -/

namespace Sys2Proof.Machine

/-! ## The checks (R172) -/

theorem Record.anyBad_iff (r : Record) : r.bands.any Band.bad = true ↔ ∃ b ∈ r.bands, b.enabled = true ∧ b.hi < b.lo := by
  simp only [List.any_eq_true, Band.bad, Bool.and_eq_true, decide_eq_true_eq]

theorem Record.badGeometry_iff (r : Record) :
    (r.role.senses && decide (r.beltHead ≤ r.sensorLine)) = true ↔ r.role ≠ .eject ∧ r.beltHead ≤ r.sensorLine := by
  rw [Bool.and_eq_true, decide_eq_true_eq, Role.senses_iff]

/-- The first check that fails (R172). -/
theorem State.startStatus_eq (s : State) : s.startStatus =
    if 24 ≤ s.strapId.toNat then .badId
    else if 192 < s.record.laneBase + s.record.laneCount then .lanes
    else if (s.record.role.senses && decide (s.record.beltHead ≤ s.record.sensorLine)) = true then .geometry
    else if s.record.bands.any Band.bad = true then .bands
    else .ok := rfl

theorem start_busy {s : State} (out : s.inReset = false) (operating : s.mode ≠ .setup) : exec .start s = .next (s.answered [1]) := by
  change execStart s = _
  refine (s.act_out _ out).trans (congrArg _ ?_)
  exact if_pos (State.operating_of operating)

theorem start_refused {s : State} {status : PortStatus} (out : s.inReset = false) (setup : s.mode = .setup)
    (is : s.startStatus = status) (bad : status ≠ .ok) : exec .start s = .next (s.answered [byteOf status.code]) := by
  have rests : s.operating = false := by simp [State.operating, setup]
  change execStart s = _
  refine (s.act_out _ out).trans ?_
  simp only [rests, is, bad, if_false, Bool.false_eq_true]
  rfl

theorem start_accepted {s : State} (out : s.inReset = false) (setup : s.mode = .setup) (ok : s.startStatus = .ok) :
    exec .start s = .next (s.started.answered [0]) := by
  have rests : s.operating = false := by simp [State.operating, setup]
  change execStart s = _
  refine (s.act_out _ out).trans ?_
  simp only [rests, ok, if_true, if_false, Bool.false_eq_true]
  generalize s.started = t
  rfl

/-! ## What is queued (R52, R75) -/

/-- The cause a START gives its HALT assert (R75). -/
abbrev State.haltCause (s : State) : HaltCause := if s.monitor.doorOpen then .door else if s.monitor.stopRequested then .stop else .operator

section
variable {x : State}

/-- In MUTE both entries are counted and dropped (R57). -/
theorem State.placed_of_mute (operating : x.mode ≠ .setup) (mute : x.tx.mute = true) :
    x.placeStatus.startHalt = if x.ownHalt then (x.bump .muteDrop).bump .muteDrop else x.bump .muteDrop := by
  rw [State.placeStatus_of_mute operating mute]
  exact if_congr Iff.rfl (State.enqueueUrgent_of_mute (s := x.bump .muteDrop) operating mute) rfl

/-- Out of MUTE the STATUS takes its slot, a STATUS being sent is replaced (R52). -/
def State.withStatus (x : State) : State :=
  { x with tx := { x.tx with beacon := some 0, attempt := x.tx.attempt.map Attempt.replace } }

theorem State.placed_of_loud (operating : x.mode ≠ .setup) (loud : x.tx.mute = false) :
    x.placeStatus.startHalt = if x.ownHalt then x.withStatus.enqueueUrgent (.halt true x.haltCause) else x.withStatus := by
  rw [State.placeStatus_of_loud operating loud]
  rfl

/-- With room in the urgent queue no entry is lost (R51, R75). -/
theorem State.placed_of_room (operating : x.mode ≠ .setup) (loud : x.tx.mute = false) (room : x.tx.urgent.length < 8) :
    x.placeStatus.startHalt = { x with tx := { x.withStatus.tx with
      urgent := x.tx.urgent ++ if x.ownHalt then [{ content := .halt true x.haltCause, errors := 0 }] else [] } } := by
  rw [State.placed_of_loud operating loud]
  cases x.ownHalt
  · simp [State.withStatus]
  · exact State.enqueueUrgent_of_room (s := x.withStatus) operating loud room

theorem State.placed_tx (operating : x.mode ≠ .setup) (loud : x.tx.mute = false) :
    ∃ urgent, x.placeStatus.startHalt.tx = { x.withStatus.tx with urgent := urgent } := by
  rw [State.placed_of_loud operating loud]
  cases x.ownHalt
  · exact ⟨_, rfl⟩
  · rcases x.withStatus.enqueueUrgent_tx (.halt true x.haltCause) with same | ⟨-, -, queued⟩
    · exact ⟨_, same⟩
    · exact ⟨_, queued⟩

/-! ## Watch and station state (R77, R84) -/

/-- A watch that waits is MATCHED on a match, else it waits on. -/
theorem State.evaluateWatch_of_waiting (waiting : x.monitor.watch = .waiting) : x.evaluateWatch = { x with
    monitor := { x.monitor with watch := if x.record.watchMatches x.monitor.accepted = true then .matched else .waiting } } := by
  cases matches_ : x.record.watchMatches x.monitor.accepted with
  | true => rw [State.evaluateWatch_of_match matches_, if_pos rfl]
  | false =>
    rw [State.evaluateWatch_of_miss matches_ (by simp [waiting]), if_neg Bool.false_ne_true]
    exact (x.setMonitor_same (by rw [← waiting])).symm

/-- HELD entered with nothing standing and no valve open moves station state, tally and flag alone (R78). -/
theorem State.enterHeld_at_rest (tracks : x.tracks = []) (closed : x.openCount = 0) :
    x.enterHeld = (({ x with mode := .held }.bump .held).raise .held) := by
  have order : x.firingOrder = [] := by simp [State.firingOrder, tracks, arrange]
  have valves : x.closeAllValves.valves = x.valves := by
    refine Vector.ext fun i within => ?_
    have rests := (State.openCount_eq_zero_iff x).mp closed ⟨i, within⟩
    exact (x.closeAllValves_valves ⟨i, within⟩).trans (closeValve_of_rest rests _ _)
  rw [x.enterHeld_eq, order, valves]
  rfl

end

/-! ## An accepted START (R173) -/

theorem State.begun_only (s : State) : s.changesOnly s.begun [.mode, .belt, .scan, .tx, .monitor] := by
  intro p apart
  cases p <;> first | rfl | simp at apart

/-- The part with own entry, STATUS and HALT assert in their places. -/
def State.queued (s : State) : State := s.begun.ownEntry.placeStatus.startHalt

/-- The part with watch and station state set, nothing begun yet. -/
def State.settled (s : State) : State := s.queued.evaluateWatch.settleMode

theorem State.started_settled (s : State) : s.started = s.settled.begin := rfl

section
variable {s : State}

theorem State.queued_only : s.begun.changesOnly s.queued [.peers, .tx, .tallies] :=
  s.begun.ownEntry_only.then ((State.placeStatus_only _).trans (State.startHalt_only _)) (by simp) (by simp)

/-- The own entry is made of station and own halt; the others stay (R68). -/
theorem State.queued_peers (station : s.strapId.toNat < 24) (i : Fin 24) :
    s.queued.peers[i] = if i.val = s.strapId.toNat then Peer.own s.record s.ownHalt else s.peers[i] := by
  have only : s.begun.ownEntry.changesOnly s.queued [.tx, .tallies] := (State.placeStatus_only _).trans (State.startHalt_only _)
  rw [only .peers (by simp), State.ownEntry, dif_pos (show s.begun.strapId.toNat < 24 from station)]
  by_cases own : i.val = s.strapId.toNat
  · have is : (⟨s.begun.strapId.toNat, station⟩ : Fin 24) = i := Fin.ext own.symm
    rw [if_pos own, is, State.updatePeer_same]
    rfl
  · rw [if_neg own, State.updatePeer_other _ _ fun same => own (congrArg Fin.val same)]
    rfl

theorem State.queued_waits : s.queued.monitor = { s.monitor with watch := .waiting } := State.queued_only .monitor (by simp)

theorem State.watched_only : s.queued.changesOnly s.queued.evaluateWatch [.monitor] := by
  rw [State.evaluateWatch_of_waiting (by rw [State.queued_waits])]
  exact State.setMonitor_only _ _

theorem State.watched_monitor : s.queued.evaluateWatch.monitor = { s.monitor with
    watch := if s.record.watchMatches s.monitor.accepted = true then .matched else .waiting } := by
  rw [State.evaluateWatch_of_waiting (by rw [State.queued_waits])]
  dsimp only
  rw [State.queued_waits, State.queued_only .record (by simp)]
  rfl

theorem State.settled_only : s.queued.changesOnly s.settled (.monitor :: holdParts) :=
  State.watched_only.then (State.settleMode_only _) (by simp) (by simp)

theorem State.settled_monitor : s.settled.monitor = { s.monitor with
    watch := if s.record.watchMatches s.monitor.accepted = true then .matched else .waiting } :=
  (State.settleMode_only _ .monitor (by simp)).trans State.watched_monitor

theorem State.watched_run : s.queued.evaluateWatch.mode = .run ∧ s.queued.evaluateWatch.haltSet = s.haltSet := by
  have only : s.begun.changesOnly s.queued.evaluateWatch [.peers, .tx, .tallies, .monitor] :=
    State.queued_only.then State.watched_only (by simp) (by simp)
  exact ⟨only .mode (by simp), only .haltSet (by simp)⟩

/-- With an empty halt set START ends in RUN (R77). -/
theorem State.settled_of_empty (empty : s.haltSet = 0) : s.settled.mode = .run ∧ s.queued.changesOnly s.settled [.mode, .monitor] := by
  obtain ⟨run, set⟩ := State.watched_run (s := s)
  refine ⟨?_, State.watched_only.then (State.settleMode_only_of_quiet (.inr (set.trans empty))) (by simp) (by simp)⟩
  rw [State.settled, State.settleMode_mode, run, if_neg (by simp), if_pos (set.trans empty)]

/-- With an id in the halt set START enters HELD (R77, R78). -/
theorem State.settled_of_held (held : s.haltSet ≠ 0) : s.settled = s.queued.evaluateWatch.enterHeld := by
  obtain ⟨run, set⟩ := State.watched_run (s := s)
  exact State.settleMode_of_entering run (set ▸ held)

/-! ### The transmitter (R51, R52, R75) -/

theorem State.entered_eq : s.begun.ownEntry.tx = s.begun.tx ∧ s.begun.ownEntry.mode = .run
    ∧ s.begun.ownEntry.ownHalt = s.ownHalt ∧ s.begun.ownEntry.haltCause = s.haltCause := by
  have only := s.begun.ownEntry_only
  refine ⟨only .tx (by simp), only .mode (by simp), State.ownHalt_of_same (s := s.begun) only (by simp), ?_⟩
  rw [State.haltCause, only .monitor (by simp)]
  rfl

theorem State.queued_of_mute (mute : s.tx.mute = true) : s.queued.tx = s.begun.tx
    ∧ s.begun.counts s.queued .muteDrop (if s.ownHalt then 2 else 1) ∧ s.begun.records s.queued [.muteDrop] [] := by
  obtain ⟨tx, run, own, -⟩ := State.entered_eq (s := s)
  have entered := s.begun.ownEntry_only.records (by simp) (by simp) [] []
  have is := State.placed_of_mute (x := s.begun.ownEntry) (by simp [run]) (by rw [tx]; exact mute)
  rw [own] at is
  rw [State.queued]
  generalize s.begun.ownEntry = x at *
  have once := (entered.counts (x.bump_counts .muteDrop) (by simp))
  have first : s.begun.records (x.bump .muteDrop) [.muteDrop] [] := (entered.mono (by simp) (by simp)).trans (x.bump_records _ _)
  rw [is]
  cases s.ownHalt with
  | false => exact ⟨tx, once, first⟩
  | true => exact ⟨tx, once.add (State.bump_counts _ _), first.trans (State.bump_records _ _ _)⟩

theorem State.queued_of_loud (loud : s.tx.mute = false) : ∃ urgent, s.queued.tx = { s.begun.tx with
    beacon := some 0, attempt := s.tx.attempt.map Attempt.replace, urgent := urgent } := by
  obtain ⟨tx, run, -⟩ := State.entered_eq (s := s)
  obtain ⟨urgent, is⟩ := State.placed_tx (x := s.begun.ownEntry) (by simp [run]) (by rw [tx]; exact loud)
  refine ⟨urgent, is.trans ?_⟩
  rw [State.withStatus, tx]
  rfl

theorem State.queued_of_room (loud : s.tx.mute = false) (room : s.tx.urgent.length < 8) : s.begun.records s.queued [] []
    ∧ s.queued.tx.urgent = s.tx.urgent ++ if s.ownHalt then [{ content := .halt true s.haltCause, errors := 0 }] else [] := by
  obtain ⟨tx, run, own, cause⟩ := State.entered_eq (s := s)
  have entered := s.begun.ownEntry_only.records (by simp) (by simp) [] []
  have is := State.placed_of_room (x := s.begun.ownEntry) (by simp [run]) (by rw [tx]; exact loud) (by rw [tx]; exact room)
  rw [own, cause, tx] at is
  rw [State.queued]
  generalize s.begun.ownEntry = x at *
  rw [is]
  exact ⟨entered.trans ((x.setTx_only _).records (by simp) (by simp) _ _), rfl⟩

/-- What START leaves of the transmitter in any case. -/
theorem State.queued_keeps : s.queued.tx.beaconDue = some (s.belt.timebase + BitVec.ofNat 32 s.record.beaconInterval)
    ∧ s.queued.tx.sequence = s.tx.sequence ∧ s.queued.tx.mute = s.tx.mute ∧ s.queued.tx.consecutive = s.tx.consecutive
    ∧ s.queued.tx.sightings = s.tx.sightings := by
  cases mute : s.tx.mute with
  | true =>
    rw [(State.queued_of_mute mute).1]
    exact ⟨rfl, rfl, mute, rfl, rfl⟩
  | false =>
    obtain ⟨urgent, is⟩ := State.queued_of_loud mute
    rw [is]
    exact ⟨rfl, rfl, mute, rfl, rfl⟩

theorem State.queued_records : s.begun.records s.queued [.urgentDrop, .muteDrop] [] := by
  have entered := s.begun.ownEntry_only.records (by simp) (by simp) [.urgentDrop, .muteDrop] []
  refine (entered.trans ((State.placeStatus_records _).mono (by simp) (by simp))).trans ?_
  unfold State.queued State.startHalt
  exact .ite _ (State.enqueueUrgent_records _ _) (.refl _ _ _)

/-! ### The part when all has taken effect but the first frame (log 27) -/

theorem State.settled_tx : s.settled.tx = s.queued.tx := State.settled_only .tx (by simp)

theorem State.settled_line : s.settled.line = s.line :=
  (State.settled_only .line (by simp)).trans (State.queued_only .line (by simp))

theorem State.settled_belt : s.settled.belt = { s.belt with scanPhase := 0 } :=
  (State.settled_only .belt (by simp)).trans (State.queued_only .belt (by simp))

theorem State.settled_operating : s.settled.mode ≠ .setup := by
  by_cases empty : s.haltSet = 0
  · simp [(State.settled_of_empty empty).1]
  · simp [State.settled_of_held empty, State.enterHeld_mode]

theorem State.settled_statusBody : s.settled.statusBody = .status
    { held := s.settled.mode == .held, haltFlag := s.inHaltSet s.strapId.toNat, about := s.record.about } := by
  have station : s.settled.strapId = s.strapId := (State.settled_only .strapId (by simp)).trans (State.queued_only .strapId (by simp))
  have set : s.settled.haltSet = s.haltSet := (State.settled_only .haltSet (by simp)).trans (State.queued_only .haltSet (by simp))
  have record : s.settled.record = s.record := (State.settled_only .record (by simp)).trans (State.queued_only .record (by simp))
  rw [State.statusBody, station, record, State.inHaltSet, set]
  rfl

/-- Before the station state is set, no tally of HELD and no flag has changed. -/
theorem State.watched_records : s.records s.queued.evaluateWatch [.urgentDrop, .muteDrop] [] :=
  ((s.begun_only.records (by simp) (by simp) _ _).trans State.queued_records).trans
    (State.watched_only.records (by simp) (by simp) _ _)

theorem State.settled_flags_of_empty (empty : s.haltSet = 0) : s.settled.flags = s.flags ∧ s.settled.tally .held = s.tally .held := by
  obtain ⟨-, only⟩ := State.settled_of_empty empty
  have flags : s.queued.flags = s.flags := State.queued_only .flags (by simp)
  have tally : s.queued.tally .held = s.tally .held := State.queued_records.1 .held (by simp)
  exact ⟨(only .flags (by simp)).trans flags, ((only.records (by simp) (by simp) [] []).1 .held (by simp)).trans tally⟩

theorem State.settled_flags_of_held (held : s.haltSet ≠ 0) : s.settled.mode = .held ∧ s.settled.flagSet .held = true
    ∧ s.counts s.settled .held 1 := by
  rw [State.settled_of_held held]
  exact ⟨State.enterHeld_mode _, State.enterHeld_flag _, State.watched_records.counts (State.enterHeld_counts _) (by simp)⟩

/-- From a part at rest the station state alone is set, with tally and flag of HELD. -/
theorem State.settled_at_rest (tracks : s.tracks = []) (closed : s.openCount = 0) :
    s.queued.changesOnly s.settled [.mode, .monitor, .tallies, .flags] ∧ s.queued.records s.settled [.held] [.held] := by
  by_cases empty : s.haltSet = 0
  · obtain ⟨-, only⟩ := State.settled_of_empty empty
    exact ⟨only.mono (by simp), only.records (by simp) (by simp) _ _⟩
  · have same : s.begun.changesOnly s.queued.evaluateWatch [.peers, .tx, .tallies, .monitor] :=
      State.queued_only.then State.watched_only (by simp) (by simp)
    rw [State.settled_of_held empty, State.enterHeld_at_rest ((same .tracks (by simp)).trans tracks)
      ((State.openCount_of_valves (same .valves (by simp))).trans closed)]
    have watchedOnly := State.watched_only (s := s)
    have watched := watchedOnly.records (by simp) (by simp) [.held] [.held]
    generalize s.queued.evaluateWatch = w at *
    have mode := w.setMode_only .held
    exact ⟨watchedOnly.then (mode.then (State.bump_raise_only _ _ _) (rs := [.mode, .tallies, .flags]) (by simp) (by simp))
      (by simp) (by simp), watched.trans ((mode.records (by simp) (by simp) _ _).trans (State.bump_raise_records _ _ _))⟩

/-! ### The first frame (R53) -/

theorem State.begin_keeps (x : State) : ∃ attempt sightings, sightings <:+ x.tx.sightings
    ∧ x.begin.tx = { x.tx with attempt := attempt, sightings := sightings } := by
  rcases x.begin_tx with same | ⟨-, -, a, sightings, suffix_, is, -⟩
  · exact ⟨_, _, List.suffix_refl _, by rw [same]⟩
  · exact ⟨a, sightings, suffix_, is⟩

/-- A STATUS in its slot gives an idle line a frame to begin. -/
theorem State.begin_line_of_beacon {x : State} (idle : x.line.status = .idle) (operating : x.mode ≠ .setup)
    (loud : x.tx.mute = false) (beacon : x.tx.beacon = some 0) :
    x.begin.line = { status := .receiving false, cSof := x.belt.count, tSof := x.belt.timebase } := by
  rw [State.begin_of_frame idle operating loud (by simp [State.hasFrame, beacon])]
  exact x.latch.sendHead_only .line (by simp)

/-- Without a sighting queued none is dropped. -/
theorem State.begin_records_of_no_sighting {x : State} (none_ : x.tx.sightings = []) (xs : List Tally) (fs : List Flag) :
    x.records x.begin xs fs := by
  by_cases urgent : x.tx.urgent = []
  · have dropped : x.latch.dropStale = { x.latch with tx := { x.latch.tx with sightings := [] } } := by
      rw [State.dropStale_eq (s := x.latch) (stale := []) (rest := []) none_ (by simp) (by simp)]
      exact State.bumpBy_zero _ _
    refine .ite _ ?_ (.refl _ _ _)
    rw [State.sendHead_of_lesser (s := x.latch) urgent, dropped]
    refine (x.latch_only.records (by simp) (by simp) _ _).trans ?_
    exact ((x.latch.setTx_only _).records (by simp) (by simp) _ _).trans ((State.sendLesser_only _).records (by simp) (by simp) _ _)
  · exact State.begin_records_of_urgent urgent _ _

/-- At rest START drops the entries of MUTE and no other (R57). -/
theorem State.queued_at_rest (urgent : s.tx.urgent = []) : s.begun.records s.queued [.muteDrop] []
    ∧ s.begun.counts s.queued .muteDrop (if s.tx.mute then (if s.ownHalt then 2 else 1) else 0) := by
  cases mute : s.tx.mute with
  | true =>
    obtain ⟨-, dropped, records⟩ := State.queued_of_mute mute
    exact ⟨records, dropped⟩
  | false =>
    have records := (State.queued_of_room mute (by simp [urgent])).1
    exact ⟨records.mono (by simp) (by simp), (s.begun.counts_zero .muteDrop).then records (by simp)⟩

/-- The frame that an idle line begins: the HALT assert, else the STATUS (log 27). -/
theorem State.settled_first_frame (idle : s.line.status = .idle) (loud : s.tx.mute = false) (urgent : s.tx.urgent = [])
    (sightings : s.tx.sightings = []) : s.settled.begin.tx.attempt = some (if s.ownHalt then
        { source := .urgent, fate := .present, frame := frameOf s.strapId s.tx.sequence (.halt true s.haltCause) }
      else { source := .beacon, fate := .present, frame := frameOf s.strapId s.tx.sequence s.settled.statusBody }) := by
  obtain ⟨-, sequence, muteKept, -, queue⟩ := State.queued_keeps (s := s)
  obtain ⟨queued, tx⟩ := State.queued_of_loud loud
  have halt := (State.queued_of_room loud (by simp [urgent])).2
  have station : s.settled.strapId = s.strapId := (State.settled_only .strapId (by simp)).trans (State.queued_only .strapId (by simp))
  have line := State.settled_line (s := s)
  have operating := State.settled_operating (s := s)
  have beacon : s.queued.tx.beacon = some 0 := congrArg Transmitter.beacon tx
  rw [urgent, List.nil_append] at halt
  rw [← State.settled_tx] at sequence muteKept queue halt beacon
  rw [← station, ← sequence]
  generalize s.settled = x at *
  cases own : s.ownHalt with
  | true =>
    rw [State.begin_of_first_urgent (line ▸ idle) operating (muteKept.trans loud) (halt.trans (by rw [own]; rfl))]
    rfl
  | false =>
    rw [State.begin_of_beacon (line ▸ idle) operating (muteKept.trans loud) (halt.trans (by rw [own]; rfl))
      (queue.trans sightings) beacon]
    rfl

/-- From SETUP at rest with no valve open, START moves no track, valve or trace, and counts and flags HELD and MUTE-DROP alone. -/
theorem State.started_at_rest (atRest : s.setupAtRest) (setup : s.mode = .setup) (closed : s.openCount = 0) :
    s.started.tx.sightings = [] ∧ s.records s.started [.held, .muteDrop] [.held]
      ∧ s.counts s.started .muteDrop (if s.tx.mute then (if s.ownHalt then 2 else 1) else 0)
      ∧ s.changesOnly s.started [.mode, .belt, .scan, .tx, .line, .monitor, .peers, .tallies, .flags] := by
  obtain ⟨tracks, -, -, urgent, sightings, -⟩ := atRest setup
  obtain ⟨settled, entered⟩ := State.settled_at_rest tracks closed
  obtain ⟨dropped, count⟩ := State.queued_at_rest urgent
  have none_ : s.settled.tx.sightings = [] := by
    obtain ⟨-, -, -, -, queue⟩ := State.queued_keeps (s := s)
    rw [State.settled_tx, queue, sightings]
  have begun : s.records s.begun [.held, .muteDrop] [.held] := s.begun_only.records (by simp) (by simp) _ _
  have untouched : s.records s.begun [] [] := s.begun_only.records (by simp) (by simp) _ _
  have queued : s.changesOnly s.queued [.mode, .belt, .scan, .tx, .monitor, .peers, .tallies] :=
    s.begun_only.then State.queued_only (by simp) (by simp)
  rw [State.started_settled]
  refine ⟨?_, ?_, ?_, ?_⟩
  · obtain ⟨attempt, left, suffix_, is⟩ := s.settled.begin_keeps
    rw [is]
    exact List.suffix_nil.mp (none_ ▸ suffix_)
  · exact ((begun.trans (dropped.mono (by simp) (by simp))).trans (entered.mono (by simp) (by simp))).trans
      (State.begin_records_of_no_sighting none_ _ _)
  · exact ((untouched.counts count (by simp)).then entered (by simp)).then (State.begin_records_of_no_sighting none_ [] []) (by simp)
  · exact (queued.then settled (rs := [.mode, .belt, .scan, .tx, .monitor, .peers, .tallies, .flags]) (by simp) (by simp)).then
      (State.begin_only _) (by simp) (by simp)

end

/-- Settles O57: the checks in their order; then queues, watch, station state, and the first frame. -/
theorem startValidatesAndBegins : Obligations.StartValidatesAndBegins := by
  intro s out badLanes badGeometry badBands cause
  refine ⟨start_busy out, fun setup none_ => ?_, fun setup station => ?_⟩
  · exact start_refused out setup (status := .badId) (if_pos none_) (by simp)
  have named : ¬ 24 ≤ s.strapId.toNat := Nat.not_le.mpr station
  have geometry := s.record.badGeometry_iff
  have bands := s.record.anyBad_iff
  have status := s.startStatus_eq
  rw [if_neg named] at status
  refine ⟨fun lanes => ?_, fun lanes geo => ?_, fun lanes geo band => ?_, fun lanes geo band => ?_⟩
  · exact start_refused out setup (status := .lanes) (status.trans (if_pos lanes)) (by simp)
  · exact start_refused out setup (status := .geometry) (status.trans ((if_neg lanes).trans (if_pos (geometry.mpr geo)))) (by simp)
  · refine start_refused out setup (status := .bands) (status.trans ((if_neg lanes).trans ?_)) (by simp)
    exact (if_neg (mt geometry.mp geo)).trans (if_pos (bands.mpr band))
  have accepted : s.startStatus = .ok :=
    status.trans ((if_neg lanes).trans ((if_neg (mt geometry.mp geo)).trans (if_neg (mt bands.mp band))))
  obtain ⟨attempt, sightings, suffix_, begunTx⟩ := s.settled.begin_keeps
  obtain ⟨due, sequence, muteKept, consecutive, queue⟩ := State.queued_keeps (s := s)
  have begun := s.settled.begin_only
  have count := s.settled.begin_records
  have mode : s.settled.begin.mode = s.settled.mode := begun .mode (by simp)
  have peers : ∀ i : Fin 24, s.settled.begin.peers[i] = if i.val = s.strapId.toNat then Peer.own s.record s.ownHalt else s.peers[i] :=
    fun i => by rw [begun .peers (by simp), State.settled_only .peers (by simp), State.queued_peers station]
  have beacon (loud : s.tx.mute = false) : s.settled.tx.beacon = some 0 := by
    obtain ⟨urgent, is⟩ := State.queued_of_loud loud
    rw [State.settled_tx, is]
  have urgentOf (loud : s.tx.mute = false) (urgent : s.tx.urgent = []) :
      s.settled.tx.urgent = if s.ownHalt then [{ content := .halt true cause, errors := 0 }] else [] := by
    rw [State.settled_tx, (State.queued_of_room loud (by simp [urgent])).2, urgent, List.nil_append]
  have queued (loud : s.tx.mute = false) (urgent : s.tx.urgent = []) :
      s.settled.begin.tx.urgent = if s.ownHalt then [{ content := .halt true cause, errors := 0 }] else [] :=
    (congrArg Transmitter.urgent begunTx).trans (urgentOf loud urgent)
  have quiet (mute : s.tx.mute = true) : s.settled.begin = s.settled :=
    State.begin_of_silent (.inr ((congrArg Transmitter.mute State.settled_tx).trans (muteKept.trans mute)))
  have silentTx (mute : s.tx.mute = true) :
      s.settled.tx = { s.tx with beaconDue := s.settled.begin.tx.beaconDue } := by
    have tx : s.settled.tx = s.begun.tx := State.settled_tx.trans (State.queued_of_mute mute).1
    rw [quiet mute, tx]
    rfl
  have still (busy : s.line.status ≠ .idle) : s.settled.begin = s.settled :=
    State.begin_of_busy _ (State.settled_line (s := s) ▸ busy)
  have isLoud (loud : s.tx.mute = false) : s.settled.tx.mute = false :=
    (congrArg Transmitter.mute State.settled_tx).trans (muteKept.trans loud)
  refine ⟨s.settled.begin.answered [0], start_accepted out setup accepted, rfl, rfl, ?_, ?_, fun i => ⟨fun own => ?_, fun other => ?_⟩,
    ?_, fun loud => ?_, fun loud urgent => ⟨fun released => ?_, fun asserted => ?_⟩, ?_, ?_, ?_, fun mute => ⟨?_, ?_⟩,
    fun loud busy => ?_, fun loud idle urgent none_ => ?_, fun busy => ?_, fun idle loud => ?_, fun match_ => ?_, fun miss => ?_,
    fun empty => ⟨?_, ?_, ?_⟩, fun held => ⟨?_, ?_, ?_⟩, fun atRest closed => ?_, ?_⟩
  · exact (begun .belt (by simp)).trans State.settled_belt
  · exact (begun .scan (by simp)).trans ((State.settled_only .scan (by simp)).trans (State.queued_only .scan (by simp)))
  · exact (peers i).trans (if_pos own)
  · exact (peers i).trans (if_neg other)
  · exact s.settled.begin_beacon.2.trans ((congrArg Transmitter.beaconDue State.settled_tx).trans due)
  · exact s.settled.begin_beacon.1.trans (beacon loud)
  · exact (queued loud urgent).trans (by rw [released]; rfl)
  · exact (queued loud urgent).trans (by rw [asserted]; rfl)
  · exact (congrArg Transmitter.sequence begunTx).trans ((congrArg Transmitter.sequence State.settled_tx).trans sequence)
  · exact (congrArg Transmitter.mute begunTx).trans ((congrArg Transmitter.mute State.settled_tx).trans muteKept)
  · exact (congrArg Transmitter.consecutive begunTx).trans ((congrArg Transmitter.consecutive State.settled_tx).trans consecutive)
  · exact (congrArg State.tx (quiet mute)).trans (silentTx mute)
  · exact (congrArg State.line (quiet mute)).trans State.settled_line
  · obtain ⟨urgent, is⟩ := State.queued_of_loud loud
    exact (congrArg (·.tx.attempt) (still busy)).trans (congrArg Transmitter.attempt (State.settled_tx.trans is))
  · refine (State.settled_first_frame idle loud urgent none_).trans ?_
    rw [State.settled_statusBody, ← mode]
    rfl
  · exact (congrArg State.line (still busy)).trans State.settled_line
  · refine (State.begin_line_of_beacon (State.settled_line (s := s) ▸ idle) State.settled_operating (isLoud loud) (beacon loud)).trans ?_
    rw [State.settled_belt]
  · refine (begun .monitor (by simp)).trans (State.settled_monitor.trans ?_)
    rw [if_pos ((s.record.watchMatches_iff _).mpr match_)]
  · refine (begun .monitor (by simp)).trans (State.settled_monitor.trans ?_)
    rw [if_neg (mt (s.record.watchMatches_iff _).mp miss)]
  · exact mode.trans (State.settled_of_empty empty).1
  · exact (begun .flags (by simp)).trans (State.settled_flags_of_empty empty).1
  · have none_ := (count.1 .held (by simp)).trans (State.settled_flags_of_empty empty).2
    rw [State.counts, show (s.settled.begin.answered [0]).tally .held = _ from none_]
    exact s.counts_zero .held
  · exact mode.trans (State.settled_flags_of_held held).1
  · exact (count.2 .held (by simp)).trans (State.settled_flags_of_held held).2.1
  · exact (State.settled_flags_of_held held).2.2.then count (by simp)
  · obtain ⟨none_, ⟨tallies, flags⟩, dropped, only⟩ := State.started_at_rest atRest setup closed
    exact ⟨none_, flags, tallies, dropped, only.then (State.answered_only _ _) (by simp) (by simp)⟩
  · exact (s.started_only.then (State.answered_only _ _) (fun _ h => h) (by simp)).mono (by simp)

end Sys2Proof.Machine
